-- ==== Sys2Proof/Word.lean ====
section
/-! DEFINITION. The words of the model: a byte, the 32-bit word of a host access, and byte sequences of fixed
length (00_scope.md R14). -/

namespace Sys2Proof

/-- A byte: 8 bits, bit 7 the most significant (R14). -/
abbrev Byte := BitVec 8

/-- The 32-bit word of one host access (20_memory.md R53) and of one command (30_encoding.md R70). -/
abbrev Word := BitVec 32

/-- `Bytes n` of R14: a sequence of n bytes, `B[0]` first. -/
abbrev Bytes (n : Nat) := Vector Byte n

/-- A block is `Bytes16` (R14). -/
abbrev Block := Bytes 16

end Sys2Proof
end

