-- ==== Sys2Proof/Syntax.lean ====
section
/-! DEFINITION. The command language: one constructor per row of spec/opcode_table.json, and the values of MODE. -/

namespace Sys2Proof

/-- The values of the MODE field (10_state.md R23). -/
inductive Mode
  | none
  | omac
  | tmac
  | hmac
  deriving DecidableEq, Repr

/-- The seven commands (30_encoding.md R72, R77). `len` is the LEN operand: an unsigned byte count (R74). -/
inductive Instr
  /-- SET_KEY: latch a key of `len` bytes (40_setup.md R100). -/
  | setKey (len : Nat)
  /-- SET_MODE_OMAC (40_setup.md R101). -/
  | setModeOmac
  /-- SET_MODE_TMAC (40_setup.md R101). -/
  | setModeTmac
  /-- SET_MODE_HMAC (40_setup.md R101). -/
  | setModeHmac
  /-- ADD_BLOCK: feed `len` bytes of DIN (43_commands.md R140). -/
  | addBlock (len : Nat)
  /-- FINALIZE (43_commands.md R141). -/
  | finalize
  /-- VERIFY (43_commands.md R142). -/
  | verify
  deriving DecidableEq, Repr

end Sys2Proof
end

