-- ==== Sys2Proof/WellFormed.lean ====
section
/-! DEFINITION. Which instructions an encoding exists for. -/

namespace Sys2Proof

/-- LEN is a 7-bit field, "a byte count, 0 to 127" (30_encoding.md R70, R74). The lengths a command accepts are
checked by the command, not here (R74). -/
abbrev LenFits (len : Nat) : Prop := len ≤ 127

/-- An instruction is well formed when its operand fits its field. -/
abbrev WellFormed (i : Instr) : Prop :=
  match i with
  | .setKey len => LenFits len
  | .setModeOmac => True
  | .setModeTmac => True
  | .setModeHmac => True
  | .addBlock len => LenFits len
  | .finalize => True
  | .verify => True

/-- The same check as a Bool. -/
def wellFormed (i : Instr) : Bool :=
  match i with
  | .setKey len => decide (LenFits len)
  | .setModeOmac => true
  | .setModeTmac => true
  | .setModeHmac => true
  | .addBlock len => decide (LenFits len)
  | .finalize => true
  | .verify => true

end Sys2Proof
end

