-- ==== Sys2Proof/Decode.lean ====
section
/-! DEFINITION. The command word: its fields, the decoder of 30_encoding.md R75 and the encoder of R70 and R79. -/

namespace Sys2Proof

/-- OP, bits 3:0 (R70). -/
def opField (w : Word) : BitVec 4 := w.extractLsb' 0 4

/-- MODE, bits 5:4 (R70, R73). -/
def modeField (w : Word) : BitVec 2 := w.extractLsb' 4 2

/-- Bits 7:6, reserved, must be 0 (R70). -/
def reservedLow (w : Word) : BitVec 2 := w.extractLsb' 6 2

/-- LEN, bits 14:8 (R70, R74). -/
def lenField (w : Word) : BitVec 7 := w.extractLsb' 8 7

/-- Bits 31:15, reserved, must be 0 (R70). -/
def reservedHigh (w : Word) : BitVec 17 := w.extractLsb' 15 17

/-- Why a word is ILLEGAL (R76). All of them complete with ILLEGAL_CMD. -/
inductive Illegal
  /-- A bit of 7:6 or 31:15 is set. -/
  | reservedBit
  /-- OP is 0x0 or 0x6 to 0xF. -/
  | noSuchOp
  /-- MODE is not 0 in a command that does not use it. -/
  | modeNotZero
  /-- LEN is not 0 in a command that does not use it. -/
  | lenNotZero
  /-- SET_MODE with MODE = 0b00. -/
  | setModeNone
  deriving DecidableEq, Repr

/-- `decode(w)` of R75: total on the 2^32 words, reading no state. -/
def decode (w : Word) : Except Illegal Instr :=
  if reservedLow w ≠ 0 ∨ reservedHigh w ≠ 0 then .error .reservedBit
  else
    match (opField w).toNat with
    | 1 => if modeField w ≠ 0 then .error .modeNotZero else .ok (.setKey (lenField w).toNat)
    | 2 =>
      if lenField w ≠ 0 then .error .lenNotZero
      else
        match (modeField w).toNat with
        | 1 => .ok .setModeOmac
        | 2 => .ok .setModeTmac
        | 3 => .ok .setModeHmac
        | _ => .error .setModeNone
    | 3 => if modeField w ≠ 0 then .error .modeNotZero else .ok (.addBlock (lenField w).toNat)
    | 4 =>
      if modeField w ≠ 0 then .error .modeNotZero
      else if lenField w ≠ 0 then .error .lenNotZero
      else .ok .finalize
    | 5 =>
      if modeField w ≠ 0 then .error .modeNotZero
      else if lenField w ≠ 0 then .error .lenNotZero
      else .ok .verify
    | _ => .error .noSuchOp

/-- The word with the given LEN, MODE and OP and every reserved bit 0 (R70). -/
def assemble (len : BitVec 7) (mode : BitVec 2) (op : BitVec 4) : Word :=
  (len.setWidth 32 <<< 8) ||| (mode.setWidth 32 <<< 4) ||| op.setWidth 32

/-- The word of an instruction (R70, R72, R79). -/
def encode (i : Instr) : Word :=
  match i with
  | .setKey len => assemble (BitVec.ofNat 7 len) 0b00#2 0x1#4
  | .setModeOmac => assemble 0#7 0b01#2 0x2#4
  | .setModeTmac => assemble 0#7 0b10#2 0x2#4
  | .setModeHmac => assemble 0#7 0b11#2 0x2#4
  | .addBlock len => assemble (BitVec.ofNat 7 len) 0b00#2 0x3#4
  | .finalize => assemble 0#7 0b00#2 0x4#4
  | .verify => assemble 0#7 0b00#2 0x5#4

/-- The 32-bit word that an instruction's first `nbits` bits make, the bits above them zero. There is one command
length, one 32-bit word (R78). -/
def tableWord (nbits w : Nat) : Word := BitVec.ofNat 32 (w % 2 ^ nbits)

/-- The instruction the decoder reads from an instruction whose bits are `w`, numbered as the opcode table numbers them. -/
def decodeTableWord (nbits w : Nat) : Option Instr :=
  match decode (tableWord nbits w) with
  | .ok i => some i
  | .error _ => Option.none

end Sys2Proof
end

