-- ==== Sys2Proof/Machine/Bytes.lean ====
section
/-! DEFINITION. Byte sequences: the operators of 00_scope.md R14 and R15 and the byte lanes of 20_memory.md R54. -/

namespace Sys2Proof.Machine

/-- `B ‖ 0x00^(n - len(B))` as `Bytes n` (R15). The rules use it for `len(B) ≤ n` only; longer sequences are cut. -/
def bytesOf (n : Nat) (B : List Byte) : Bytes n :=
  Vector.ofFn fun i => B.getD i.val 0x00#8

/-- `A xor B` of two sequences of equal length (R15). -/
def xorBytes {n : Nat} (A B : Bytes n) : Bytes n :=
  Vector.ofFn fun i => A[i] ^^^ B[i]

/-- `c^n` (R15). -/
def repeatByte (n : Nat) (c : Byte) : Bytes n := Vector.replicate n c

/-- `A[0:j]` (R15). -/
def firstBytes {n : Nat} (A : Bytes n) (j : Nat) : List Byte := A.toList.take j

/-- `int(B)` (R14): byte 0 is the most significant byte, bit 7 of byte 0 is bit 127. -/
def intOf (B : Block) : BitVec 128 :=
  (B[0].setWidth 128 <<< 120) ||| (B[1].setWidth 128 <<< 112) ||| (B[2].setWidth 128 <<< 104) ||| (B[3].setWidth 128 <<< 96) |||
    (B[4].setWidth 128 <<< 88) ||| (B[5].setWidth 128 <<< 80) ||| (B[6].setWidth 128 <<< 72) ||| (B[7].setWidth 128 <<< 64) |||
    (B[8].setWidth 128 <<< 56) ||| (B[9].setWidth 128 <<< 48) ||| (B[10].setWidth 128 <<< 40) ||| (B[11].setWidth 128 <<< 32) |||
    (B[12].setWidth 128 <<< 24) ||| (B[13].setWidth 128 <<< 16) ||| (B[14].setWidth 128 <<< 8) ||| B[15].setWidth 128

/-- `blk(v)`, the inverse of `intOf` (R14). -/
def blk (v : BitVec 128) : Block :=
  Vector.ofFn fun i => v.extractLsb' (8 * (15 - i.val)) 8

/-- The byte in lane k of a window word: bits [8k+7:8k] (20_memory.md R54). -/
def laneByte (v : Word) (k : Nat) : Byte := v.extractLsb' (8 * k) 8

/-- The window word of four buffer bytes: `b0` in bits [7:0], `b3` in bits [31:24] (20_memory.md R54). -/
def wordOfLanes (b0 b1 b2 b3 : Byte) : Word :=
  (b3.setWidth 32 <<< 24) ||| (b2.setWidth 32 <<< 16) ||| (b1.setWidth 32 <<< 8) ||| b0.setWidth 32

/-- Byte i of a sequence, 0x00 past its end (30_encoding.md R81 "the bytes past n taken as 0x00"). -/
def byteAt (B : List Byte) (i : Nat) : Byte := B.getD i 0x00#8

/-- Word w of a byte sequence (20_memory.md R54). -/
def wordAt (B : List Byte) (w : Nat) : Word :=
  wordOfLanes (byteAt B (4 * w)) (byteAt B (4 * w + 1)) (byteAt B (4 * w + 2)) (byteAt B (4 * w + 3))

/-- The buffer after a host write of word w: exactly the four bytes `BUF[4w .. 4w+3]` change (20_memory.md R54, R57). -/
def putWord {n : Nat} (B : Bytes n) (w : Nat) (v : Word) : Bytes n :=
  Vector.ofFn fun i => if i.val / 4 = w then laneByte v (i.val % 4) else B[i]

end Sys2Proof.Machine
end

