-- ==== Sys2Proof/Config.lean ====
section
/-! DEFINITION. What the spec leaves to an implementation: the OPEN parameters of 00_scope.md R12, each an
uninterpreted constant, so that no proof can see its value.
The fixed parameters of R12 (BS = 16, the tag lengths 16, 8 and 32, HBS = KEY_MAX = 64, Rb, IPAD, OPAD) stand as
numerals where the rules use them. -/

namespace Sys2Proof

/-- The values of the hash port's opaque type `HCtx` (00_scope.md R9). A context is plain data in State, so the model
names each by a number; nothing says which number names which context, and nothing reads the number but equality.
DESIGN CHOICE, safe: notes/assumptions/6.md. -/
structure HCtx where
  name : Nat
  deriving DecidableEq, Repr, Inhabited

/-- The cipher port `Enc : Bytes16 -> Bytes16 -> Bytes16`, key then block (R8, R12: OPEN). Safe: notes/assumptions/5.md. -/
opaque Config.enc : Block → Block → Block

/-- `HInit`, a fresh context (R9, R12: OPEN). Safe: notes/assumptions/6.md. -/
opaque Config.hInit : HCtx

/-- The context after one more byte: `HUpdate` (R9, R12: OPEN) on byte strings of length 1. The incremental law of R13
leaves `HUpdate` this freedom and no other. Safe: notes/assumptions/6.md. -/
opaque Config.absorb : HCtx → Byte → HCtx

/-- `HDigest` (R9, R12: OPEN). Safe: notes/assumptions/6.md. -/
opaque Config.hDigest : HCtx → Bytes 32

/-- What reading INNER or OUTER as a context gives while the register holds NONE. The spec gives no value and no
reachable state does it (10_state.md R37). DESIGN CHOICE, safe: notes/assumptions/7.md. -/
opaque Config.noContext : HCtx

/-- `P_LAT - 1` (70_reset_and_hazards.md R190: OPEN, at least one cycle). The arguments are the word's OP, MODE and LEN
fields, the MODE in force and the held block's length (R190, R195). DESIGN CHOICE: notes/assumptions/16.md. -/
opaque Config.extraCycles : BitVec 4 → BitVec 2 → BitVec 7 → Mode → Nat → Nat

/-- `P_BASE / 256`: P_BASE is OPEN and "aligned to 256 bytes" (20_memory.md R50). Safe: notes/assumptions/14.md. -/
opaque Config.basePage : Nat

/-- The window's base address in the host's address space (20_memory.md R50). -/
def Config.pBase : Nat := 256 * Config.basePage

end Sys2Proof
end

