-- ==== Sys2Proof/Machine/State.lean ====
section
/-! DEFINITION. The state of the block (10_state.md R38), the host actions it is given, the reasons a step can stop,
and the state after reset (70_reset_and_hazards.md R180). -/

namespace Sys2Proof.Machine

/-- The result codes of STATUS.ERR (60_exceptions.md R160). Code 7 is reserved and never written, so it has no name. -/
inductive ErrCode
  | ok
  | keyNotSet
  | modeNotSet
  | invalidKeyLength
  | illegalCmd
  | invalidDataLength
  | sequence
  deriving DecidableEq, Repr

/-- The width of a host access (20_memory.md R53). -/
inductive Width
  | byte
  | half
  | word
  deriving DecidableEq, Repr

/-- What the host does to the block (30_encoding.md R80; 00_scope.md R10, R11). `gap` is the number of clock cycles from
the action before it to the access; it matters only while BUSY = 1 (notes/assumptions/8.md). -/
inductive HostAction
  /-- A bus write of `v` at window offset `off`; `sw off, v` of R80 when the width is a word. -/
  | write (gap : Nat) (width : Width) (off : BitVec 8) (v : Word)
  /-- A bus read at window offset `off`; `lw off` of R80 when the width is a word. -/
  | read (gap : Nat) (width : Width) (off : BitVec 8)
  /-- `wait` of R80: poll STATUS until BUSY is 0. -/
  | wait
  /-- The reset input is asserted (00_scope.md R11). -/
  | reset
  deriving DecidableEq, Repr

/-- The whole state (10_state.md R38) and, last, the model's own fields for a command in progress and for the input. -/
structure State where
  /-- KEY_IN (R30). -/
  keyIn : Bytes 64
  /-- KEY (R22). -/
  key : Bytes 64
  /-- KEYLEN (R22). -/
  keyLen : Nat
  /-- KEY_SET (R22). -/
  keySet : Bool
  /-- MODE (R23). -/
  mode : Mode
  /-- CACHE (R25). -/
  cache : Block
  /-- LAST (R26). -/
  last : Block
  /-- LAST_LEN (R26). -/
  lastLen : Nat
  /-- LAST_VALID (R26). -/
  lastValid : Bool
  /-- INNER; `none` is the marker NONE (R28). -/
  inner : Option HCtx
  /-- OUTER; `none` is the marker NONE (R28). -/
  outer : Option HCtx
  /-- DIN (R31). -/
  din : Bytes 64
  /-- EXP (R32). -/
  exp : Bytes 32
  /-- TAG (R33). -/
  tag : Bytes 32
  /-- TAGLEN (R33). -/
  tagLen : Nat
  /-- STATUS.BUSY (R34). -/
  busy : Bool
  /-- STATUS.MATCH (R34). -/
  matched : Bool
  /-- STATUS.OVR (R34). -/
  ovr : Bool
  /-- STATUS.ERR (R34). -/
  err : ErrCode
  /-- The model's own: the command word that runs while BUSY = 1, else 0 (30_encoding.md R71). -/
  cmd : Word
  /-- The model's own: the cycles BUSY still lasts (70_reset_and_hazards.md R190), 0 when no command runs. -/
  cyclesLeft : Nat
  /-- The model's own: the host actions not yet applied, the next one first (10_state.md R21). -/
  host : List HostAction
  /-- The model's own: the words the host has read, the oldest first (30_encoding.md R80). -/
  reads : List Word
  deriving DecidableEq, Repr

/-- Why a step can stop with a fault. -/
inductive Fault
  /-- The bus error of an access that is not 32 bits wide or not at a multiple of 4 (20_memory.md R53), raised by
  `hostWrite` and `hostRead`. Safe: the block itself would go on unchanged (notes/assumptions/4.md). -/
  | busError
  deriving DecidableEq, Repr

/-- Why a step can be refused. -/
inductive Refusal
  /-- An instruction without a meaning yet, raised by `exec`'s arm only. Safe. No arm raises it: every command has its
  meaning. -/
  | notModelled (mnemonic : String)
  deriving DecidableEq, Repr

/-- The state after reset (70_reset_and_hazards.md R180), with nothing asked of the block yet (notes/assumptions/1.md). -/
def State.reset : State where
  keyIn := Vector.replicate 64 0x00#8
  key := Vector.replicate 64 0x00#8
  keyLen := 0
  keySet := false
  mode := .none
  cache := Vector.replicate 16 0x00#8
  last := Vector.replicate 16 0x00#8
  lastLen := 0
  lastValid := false
  inner := Option.none
  outer := Option.none
  din := Vector.replicate 64 0x00#8
  exp := Vector.replicate 32 0x00#8
  tag := Vector.replicate 32 0x00#8
  tagLen := 0
  busy := false
  matched := false
  ovr := false
  err := .ok
  cmd := 0#32
  cyclesLeft := 0
  host := []
  reads := []

end Sys2Proof.Machine
end

