-- ==== Sys2Proof/Machine/Ops.lean ====
section
/-! DEFINITION. The named updates of the state, and `raise Error(code)`, the one way a command ends in an error. -/

namespace Sys2Proof.Machine

/-- The outcome type of every meaning. -/
abbrev Result := Host.Outcome State Fault Refusal

/-- The end of a command: STATUS.ERR takes the code and BUSY returns to 0 (30_encoding.md R71; 60_exceptions.md R163). -/
def State.complete (e : ErrCode) (s : State) : State :=
  { s with err := e, busy := false, cmd := 0#32, cyclesLeft := 0 }

/-- `raise Error(code)` (00_scope.md R16; 60_exceptions.md R162): ERR takes the code, BUSY is 0, and nothing else
changes. This block has no traps (60_exceptions.md R164): no pc or status is saved, and there is no return. -/
def raiseError (e : ErrCode) (s : State) : Result := .next (s.complete e)

/-- The end of a command without error: MATCH takes `m` (43_commands.md R146) and ERR takes OK. -/
def State.succeed (m : Bool) (s : State) : State :=
  State.complete .ok { s with matched := m }

/-- The latch of 40_setup.md R100: `KEY <- KEY_IN[0:len] ‖ 0x00^(64 - len)`, KEYLEN and KEY_SET. -/
def State.latchKey (len : Nat) (s : State) : State :=
  { s with key := bytesOf 64 (firstBytes s.keyIn len), keyLen := len, keySet := true }

/-- `MODE <- m` (10_state.md R23). -/
def State.selectMode (m : Mode) (s : State) : State := { s with mode := m }

/-- `cmac_init()` (41_cmac_core.md R114), which is also `cmac_reset()` (R120). -/
def State.clearCmac (s : State) : State :=
  { s with cache := repeatByte 16 0x00#8, last := repeatByte 16 0x00#8, lastLen := 0, lastValid := false }

/-- `(INNER, OUTER) <- (i, o)` (10_state.md R28). -/
def State.setContexts (i o : Option HCtx) (s : State) : State := { s with inner := i, outer := o }

/-- `CACHE <- c` (10_state.md R25). -/
def State.setCache (c : Block) (s : State) : State := { s with cache := c }

/-- The hold of 41_cmac_core.md R118: `LAST <- b ‖ 0x00^(16 - n)`, LAST_LEN and LAST_VALID. -/
def State.holdBlock (b : List Byte) (s : State) : State :=
  { s with last := bytesOf 16 b, lastLen := b.length, lastValid := true }

/-- `write_tag(t)` (43_commands.md R144): `TAG <- t ‖ 0x00^(32 - n)`; `TAGLEN <- n`. -/
def State.writeTag (t : List Byte) (s : State) : State :=
  { s with tag := bytesOf 32 t, tagLen := t.length }

/-- The latency P_LAT of the command word `w` issued in state `s`: at least one cycle (70_reset_and_hazards.md R190). -/
def latency (w : Word) (s : State) : Nat :=
  1 + Config.extraCycles (opField w) (modeField w) (lenField w) s.mode s.lastLen

/-- The issue of a command word: BUSY is 1 from here until the command completes (30_encoding.md R71). -/
def State.issue (w : Word) (s : State) : State :=
  { s with busy := true, cmd := w, cyclesLeft := latency w s }

/-- The host write dropped while BUSY: it sets OVR and changes nothing else (70_reset_and_hazards.md R192). -/
def State.dropWrite (s : State) : State := { s with ovr := true }

/-- The passing of `gap` cycles of the latency while a command runs (70_reset_and_hazards.md R190). -/
def State.elapse (gap : Nat) (s : State) : State := { s with cyclesLeft := s.cyclesLeft - gap }

/-- The host's read returns `v`: "the value is the program's observation" (30_encoding.md R80). -/
def State.observe (v : Word) (s : State) : State := { s with reads := s.reads ++ [v] }

/-- The host's next action is applied and `rest` is left. -/
def State.consume (rest : List HostAction) (s : State) : State := { s with host := rest }

/-- The reset input is asserted: every piece of state has its reset value (70_reset_and_hazards.md R180, R182). What the
host still means to do and what it has read are not the block's and stay (notes/assumptions/15.md). -/
def State.assertReset (rest : List HostAction) (s : State) : State :=
  { State.reset with host := rest, reads := s.reads }

end Sys2Proof.Machine
end

