-- ==== Sys2Proof/Machine/Operands.lean ====
section
/-! DEFINITION. The operands the commands read: byte prefixes of the buffers, the held block, the hash contexts. -/

namespace Sys2Proof.Machine

/-- `DIN[0:len]`, the data of ADD_BLOCK (10_state.md R31). -/
def dinBytes (len : Nat) (s : State) : List Byte := firstBytes s.din len

/-- `EXP[0:n]`, the expected tag of VERIFY (10_state.md R32). -/
def expBytes (n : Nat) (s : State) : List Byte := firstBytes s.exp n

/-- `KEY[0:KEYLEN]`, the HMAC key (42_hmac_core.md R131). -/
def hmacKey (s : State) : List Byte := firstBytes s.key s.keyLen

/-- `KEY[0:16]`, the cipher key (10_state.md R24). -/
def cipherKey (s : State) : Block := bytesOf 16 (firstBytes s.key 16)

/-- The final block at a finalize: the held block `LAST[0:LAST_LEN]`, or the empty block when nothing is held
(41_cmac_core.md R119). DESIGN CHOICE: a LAST_LEN over 16, which no reachable state has, gives all 16 bytes of LAST, so
`cmacTag` takes the K1 path for it. Safe: notes/assumptions/11.md. -/
def finalBlock (s : State) : List Byte := if s.lastValid then firstBytes s.last s.lastLen else []

/-- INNER as a context (10_state.md R28). It holds one whenever MODE = HMAC (R37). -/
def innerCtx (s : State) : HCtx := s.inner.getD Config.noContext

/-- OUTER as a context (10_state.md R28). It holds one whenever MODE = HMAC (R37). -/
def outerCtx (s : State) : HCtx := s.outer.getD Config.noContext

end Sys2Proof.Machine
end

