-- ==== Sys2Proof/Machine/Ports.lean ====
section
/-! DEFINITION. The two collaborator ports (00_scope.md R8, R9). Both are total (60_exceptions.md R169). -/

namespace Sys2Proof.Machine

/-- `Enc(B)`: one block encrypted under the latched key (R8, 10_state.md R24). -/
def encWith (s : State) : Block → Block := Config.enc (cipherKey s)

/-- `HInit`, a fresh context (R9). -/
def hInit : HCtx := Config.hInit

/-- `HUpdate(c, B)` (R9): the bytes of B absorbed one after the other, which is every function that meets the incremental
law of R13 (notes/assumptions/6.md). -/
def hUpdate (c : HCtx) (B : List Byte) : HCtx := B.foldl Config.absorb c

/-- `HDigest(c)`, which does not change the context it reads (R9). -/
def hDigest (c : HCtx) : Bytes 32 := Config.hDigest c

end Sys2Proof.Machine
end

