-- ==== Sys2Proof/Machine/Cmac.lean ====
section
/-! DEFINITION. The CMAC core: subkey generator and CBC-MAC accumulator (41_cmac_core.md). The functions of the
subkeys and of the tag take the cipher `enc` as an argument, so that the spec's worked values can be tried on them. -/

namespace Sys2Proof.Machine

/-- `dbl(B)` (R110): shift left by one bit, and XOR Rb = 0x87 into the lowest byte if the top bit was 1. -/
def dbl (B : Block) : Block :=
  let v := intOf B
  let s := v <<< 1
  blk (if v.getLsbD 127 then s ^^^ 0x87#128 else s)

/-- `subkeys()` (R112): L = Enc(0^16), K1 = dbl(L), K2 = dbl(K1). -/
def subkeys (enc : Block → Block) : Block × Block :=
  let L := enc (repeatByte 16 0x00#8)
  let K1 := dbl L
  let K2 := dbl K1
  (K1, K2)

/-- `pad_iso(b)` (R116), for a block shorter than 16 bytes: `b ‖ 0x80 ‖ 0x00^(15 - n)`. -/
def padIso (b : List Byte) : Block := bytesOf 16 (b ++ [0x80#8])

/-- `pad_pkcs7(b)` (R117), for a block shorter than 16 bytes: p = 16 - n bytes of value p. -/
def padPkcs7 (b : List Byte) : Block :=
  bytesOf 16 (b ++ List.replicate (16 - b.length) (BitVec.ofNat 8 (16 - b.length)))

/-- `cmac_tag()` (R119) of the chain value `cache` and the final block `b`, with the mode's padding `pad`: a full block
is masked with K1, a short one is padded and masked with K2; the chain value is XORed in on both paths
(90_conflicts.md C1). `finalBlock` gives at most 16 bytes, so the short path is taken for fewer than 16 bytes only. -/
def cmacTag (enc : Block → Block) (pad : List Byte → Block) (cache : Block) (b : List Byte) : Block :=
  let K := subkeys enc
  if b.length = 16 then enc (xorBytes (xorBytes cache (bytesOf 16 b)) K.1)
  else enc (xorBytes (xorBytes cache (pad b)) K.2)

/-- The OMAC tag, all 16 bytes (R121). -/
def omacTag (s : State) : List Byte := (cmacTag (encWith s) padIso s.cache (finalBlock s)).toList

/-- The TMAC tag, the first 8 bytes (R121). -/
def tmacTag (s : State) : List Byte := firstBytes (cmacTag (encWith s) padPkcs7 s.cache (finalBlock s)) 8

/-- `fold()` (R115): the new chain value `Enc(CACHE xor LAST)`. -/
def folded (s : State) : Block := encWith s (xorBytes s.cache s.last)

/-- The state after `cmac_add(b)` when it raises nothing (R118): the held full block, if any, is folded into CACHE, then
b is held. -/
def State.cmacAdd (b : List Byte) (s : State) : State :=
  (s.setCache (if s.lastValid then folded s else s.cache)).holdBlock b

/-- The CMAC arm of ADD_BLOCK (43_commands.md R140): the length check, then the SEQUENCE check of R118, then the add. -/
def addCmac (len : Nat) (s : State) : Result :=
  if 16 < len then raiseError .invalidDataLength s
  else if s.lastValid = true ∧ s.lastLen < 16 then raiseError .sequence s
  else .next ((s.cmacAdd (dinBytes len s)).succeed false)

end Sys2Proof.Machine
end

