-- ==== Sys2Proof/Machine/Flags.lean ====
section
/-! DEFINITION. The flags and the two control registers that show them: STATUS and INFO (10_state.md R34, R35), and the
comparison that computes MATCH. -/

namespace Sys2Proof.Machine

/-- The code of a result in STATUS.ERR (60_exceptions.md R160). -/
def errBits (e : ErrCode) : BitVec 3 :=
  match e with
  | .ok => 0#3
  | .keyNotSet => 1#3
  | .modeNotSet => 2#3
  | .invalidKeyLength => 3#3
  | .illegalCmd => 4#3
  | .invalidDataLength => 5#3
  | .sequence => 6#3

/-- The encoding of MODE (10_state.md R23). -/
def modeBits (m : Mode) : BitVec 2 :=
  match m with
  | .none => 0b00#2
  | .omac => 0b01#2
  | .tmac => 0b10#2
  | .hmac => 0b11#2

/-- The value STATUS reads as (10_state.md R34). -/
def statusWord (s : State) : Word :=
  ((BitVec.ofNat 6 s.tagLen).setWidth 32 <<< 8) ||| ((errBits s.err).setWidth 32 <<< 4) |||
    ((BitVec.ofBool s.ovr).setWidth 32 <<< 2) ||| ((BitVec.ofBool s.matched).setWidth 32 <<< 1) |||
    (BitVec.ofBool s.busy).setWidth 32

/-- The value INFO reads as (10_state.md R35). -/
def infoWord (s : State) : Word :=
  ((BitVec.ofNat 7 s.keyLen).setWidth 32 <<< 16) ||| ((BitVec.ofNat 5 s.lastLen).setWidth 32 <<< 4) |||
    ((BitVec.ofBool s.lastValid).setWidth 32 <<< 3) ||| ((modeBits s.mode).setWidth 32 <<< 1) |||
    (BitVec.ofBool s.keySet).setWidth 32

/-- A host write to STATUS: writing 1 to bit 2 clears OVR, every other bit is ignored (10_state.md R34, 20_memory.md R57). -/
def State.writeStatus (v : Word) (s : State) : State :=
  { s with ovr := s.ovr && !v.getLsbD 2 }

/-- `ct_equal(a, b)` (43_commands.md R145): every byte is examined, the differences are collected by OR. -/
def ctEqual (a b : List Byte) : Bool :=
  (a.zip b).foldl (fun d p => d ||| (p.1 ^^^ p.2)) 0x00#8 == 0x00#8

end Sys2Proof.Machine
end

