-- ==== Sys2Proof/Machine/Hmac.lean ====
section
/-! DEFINITION. The HMAC core: key padding and dual-hash orchestrator (42_hmac_core.md). -/

namespace Sys2Proof.Machine

/-- `pad_key(k)` (R130): `k ‖ 0x00^(64 - n)`. -/
def padKey (k : List Byte) : Bytes 64 := bytesOf 64 k

/-- The seed block `K0 xor c^64` (R131). -/
def seedBytes (c : Byte) (k : List Byte) : Bytes 64 := xorBytes (padKey k) (repeatByte 64 c)

/-- The inner half of `hmac_seed(k)` (R131): `HUpdate(HInit, K0 xor 0x36^64)`. -/
def seedInner (k : List Byte) : HCtx := hUpdate hInit (seedBytes 0x36#8 k).toList

/-- The outer half of `hmac_seed(k)` (R131): `HUpdate(HInit, K0 xor 0x5c^64)`. -/
def seedOuter (k : List Byte) : HCtx := hUpdate hInit (seedBytes 0x5c#8 k).toList

/-- `(INNER, OUTER) <- hmac_seed(KEY[0:KEYLEN])`: HMAC initialisation (R132) and `hmac_reset()` (R135). -/
def State.seedHmac (s : State) : State :=
  s.setContexts (some (seedInner (hmacKey s))) (some (seedOuter (hmacKey s)))

/-- `hmac_add(d)` (R133): `INNER <- HUpdate(INNER, d)`. -/
def State.hmacAdd (d : List Byte) (s : State) : State :=
  s.setContexts (some (hUpdate (innerCtx s) d)) s.outer

/-- `hmac_tag()` (R134): the digest of a duplicate of OUTER fed with INNER's digest. -/
def hmacTag (s : State) : List Byte :=
  (hDigest (hUpdate (outerCtx s) (hDigest (innerCtx s)).toList)).toList

/-- The HMAC arm of ADD_BLOCK (43_commands.md R140). -/
def addHmac (len : Nat) (s : State) : Result :=
  if 64 < len then raiseError .invalidDataLength s
  else .next ((s.hmacAdd (dinBytes len s)).succeed false)

end Sys2Proof.Machine
end

