-- ==== Sys2Proof/Machine/Message.lean ====
section
/-! DEFINITION. The meanings of the message commands ADD_BLOCK, FINALIZE and VERIFY (43_commands.md). -/

namespace Sys2Proof.Machine

/-- ADD_BLOCK (R140): KEY_NOT_SET, MODE_NOT_SET, then the active core's arm. -/
def execAddBlock (len : Nat) (s : State) : Result :=
  if s.keySet = false then raiseError .keyNotSet s
  else
    match s.mode with
    | .none => raiseError .modeNotSet s
    | .omac => addCmac len s
    | .tmac => addCmac len s
    | .hmac => addHmac len s

/-- `mac_result()` (R143): the tag of the active mode, computed before the core is freshly initialised, and the state
after that; nothing when MODE = NONE. -/
def macResult (s : State) : Option (List Byte × State) :=
  match s.mode with
  | .none => Option.none
  | .omac => some (omacTag s, s.clearCmac)
  | .tmac => some (tmacTag s, s.clearCmac)
  | .hmac => some (hmacTag s, s.seedHmac)

/-- FINALIZE (R141): KEY_NOT_SET, MODE_NOT_SET, then the tag is written (R144). -/
def execFinalize (s : State) : Result :=
  if s.keySet = false then raiseError .keyNotSet s
  else
    match macResult s with
    | Option.none => raiseError .modeNotSet s
    | some (t, s') => .next ((s'.writeTag t).succeed false)

/-- VERIFY (R142): KEY_NOT_SET, MODE_NOT_SET, then MATCH is the comparison with `EXP[0:n]`; TAG is left as it was. -/
def execVerify (s : State) : Result :=
  if s.keySet = false then raiseError .keyNotSet s
  else
    match macResult s with
    | Option.none => raiseError .modeNotSet s
    | some (t, s') => .next (s'.succeed (ctEqual t (expBytes t.length s)))

end Sys2Proof.Machine
end

