-- ==== Sys2Proof/Machine/Setup.lean ====
section
/-! DEFINITION. The meanings of the setup commands SET_KEY and SET_MODE (40_setup.md). -/

namespace Sys2Proof.Machine

/-- SET_KEY (R100). -/
def execSetKey (len : Nat) (s : State) : Result :=
  if len = 0 ∨ 64 < len then raiseError .invalidKeyLength s
  else .next ((((s.latchKey len).selectMode .none).clearCmac.setContexts Option.none Option.none).succeed false)

/-- SET_MODE to a CMAC mode (R101): KEY_NOT_SET, then INVALID_KEY_LENGTH, then `cmac_init()`. -/
def setCmacMode (m : Mode) (s : State) : Result :=
  if s.keySet = false then raiseError .keyNotSet s
  else if s.keyLen ≠ 16 then raiseError .invalidKeyLength s
  else .next (((s.selectMode m).clearCmac.setContexts Option.none Option.none).succeed false)

/-- SET_MODE to HMAC (R101): KEY_NOT_SET, then the seeding. -/
def setHmacMode (s : State) : Result :=
  if s.keySet = false then raiseError .keyNotSet s
  else .next ((s.selectMode .hmac).clearCmac.seedHmac.succeed false)

/-- SET_MODE_OMAC (R101). -/
def execSetModeOmac (s : State) : Result := setCmacMode .omac s

/-- SET_MODE_TMAC (R101). -/
def execSetModeTmac (s : State) : Result := setCmacMode .tmac s

/-- SET_MODE_HMAC (R101). -/
def execSetModeHmac (s : State) : Result := setHmacMode s

end Sys2Proof.Machine
end

