-- ==== Sys2Proof/Machine/Dispatch.lean ====
section
/-! DEFINITION. Each instruction's meaning. -/

namespace Sys2Proof.Machine

def exec (i : Instr) (s : State) : Host.Outcome State Fault Refusal :=
  match i with
  | .setKey len => Sys2Proof.Machine.execSetKey len s
  | .setModeOmac => Sys2Proof.Machine.execSetModeOmac s
  | .setModeTmac => Sys2Proof.Machine.execSetModeTmac s
  | .setModeHmac => Sys2Proof.Machine.execSetModeHmac s
  | .addBlock len => Sys2Proof.Machine.execAddBlock len s
  | .finalize => Sys2Proof.Machine.execFinalize s
  | .verify => Sys2Proof.Machine.execVerify s

end Sys2Proof.Machine
end

