-- ==== Sys2Proof/Machine/Window.lean ====
section
/-! DEFINITION. The register window (20_memory.md R50 to R57): the map, reads and writes of one aligned word. -/

namespace Sys2Proof.Machine

/-- What stands at a word of the window (R52); `w` is the word's number inside a buffer. -/
inductive Reg
  | cmd
  | status
  | info
  | keyIn (w : Nat)
  | din (w : Nat)
  | exp (w : Nat)
  | tag (w : Nat)
  | reserved
  deriving DecidableEq, Repr

/-- The register map (R52), for an offset that is a multiple of 4. -/
def regAt (off : BitVec 8) : Reg :=
  let a := off.toNat
  if a < 0x04 then .cmd
  else if a < 0x08 then .status
  else if a < 0x0C then .info
  else if a < 0x40 then .reserved
  else if a < 0x80 then .keyIn ((a - 0x40) / 4)
  else if a < 0xC0 then .din ((a - 0x80) / 4)
  else if a < 0xE0 then .exp ((a - 0xC0) / 4)
  else .tag ((a - 0xE0) / 4)

/-- The value a host read returns (R52, R54): CMD, KEY_IN and reserved offsets read 0. -/
def windowRead (off : BitVec 8) (s : State) : Word :=
  match regAt off with
  | .cmd => 0#32
  | .status => statusWord s
  | .info => infoWord s
  | .keyIn _ => 0#32
  | .din w => wordAt s.din.toList w
  | .exp w => wordAt s.exp.toList w
  | .tag w => wordAt s.tag.toList w
  | .reserved => 0#32

/-- The state after a host write while BUSY = 0 (R52, R54, R57): a write to CMD issues a command, and a write to a
read-only or reserved offset changes nothing. -/
def windowWrite (off : BitVec 8) (v : Word) (s : State) : State :=
  match regAt off with
  | .cmd => s.issue v
  | .status => s.writeStatus v
  | .info => s
  | .keyIn w => { s with keyIn := putWord s.keyIn w v }
  | .din w => { s with din := putWord s.din w v }
  | .exp w => { s with exp := putWord s.exp w v }
  | .tag _ => s
  | .reserved => s

/-- The address of a window offset in the host's address space (R50). -/
def hostAddress (off : BitVec 8) : Nat := Config.pBase + off.toNat

/-- The window offset an address of the host selects, if it lies in the block's 256 bytes (R50). -/
def windowOffset (addr : Nat) : Option (BitVec 8) :=
  if Config.pBase ≤ addr ∧ addr < Config.pBase + 256 then some (BitVec.ofNat 8 (addr - Config.pBase)) else Option.none

end Sys2Proof.Machine
end

