-- ==== Sys2Proof/Machine/HostPort.lean ====
section
/-! DEFINITION. What one host action does to the block: the bus rule, the BUSY protocol (70_reset_and_hazards.md) and the
completion of the command in progress. -/

namespace Sys2Proof.Machine

/-- The access the block takes: 32 bits wide, at a multiple of 4 (20_memory.md R53). -/
def accessTaken (width : Width) (off : BitVec 8) : Bool :=
  decide (width = .word) && decide (off.toNat % 4 = 0)

/-- The completion of the command in progress: its word is decoded and its rule applied; an ILLEGAL word completes as
the error ILLEGAL_CMD (30_encoding.md R71, R75; 70_reset_and_hazards.md R191). -/
def runCommand (s : State) : Result :=
  match decode s.cmd with
  | .ok i => exec i s
  | .error _ => raiseError .illegalCmd s

/-- A host write that reaches the block: refused with a bus error (20_memory.md R53), dropped while BUSY = 1
(70_reset_and_hazards.md R192), or applied. -/
def hostWrite (gap : Nat) (width : Width) (off : BitVec 8) (v : Word) (rest : List HostAction) (s : State) : Result :=
  if accessTaken width off = false then .fault .busError
  else if s.busy then .next ((s.dropWrite.elapse gap).consume rest)
  else .next ((windowWrite off v s).consume rest)

/-- A host read that reaches the block: refused with a bus error (20_memory.md R53), or answered; while BUSY = 1 with the
values from before the command (20_memory.md R62). -/
def hostRead (gap : Nat) (width : Width) (off : BitVec 8) (rest : List HostAction) (s : State) : Result :=
  if accessTaken width off = false then .fault .busError
  else .next (((s.observe (windowRead off s)).elapse gap).consume rest)

/-- An access `gap` cycles away comes after the command in progress completes (70_reset_and_hazards.md R190). -/
def completesBefore (gap : Nat) (s : State) : Bool := s.busy && decide (s.cyclesLeft ≤ gap)

/-- The host's next action, or the completion of the command in progress where that comes first. With nothing asked of
it the block completes its command (92_eei_decisions.md D33 "every command completes") or holds its state
(60_exceptions.md R176). -/
def hostStep (s : State) : Result :=
  match s.host with
  | [] => if s.busy then runCommand s else .next s
  | .reset :: rest => .next (s.assertReset rest)
  | .wait :: rest => if s.busy then runCommand s else .next (s.consume rest)
  | .write gap width off v :: rest =>
    if completesBefore gap s then runCommand s else hostWrite gap width off v rest s
  | .read gap width off :: rest =>
    if completesBefore gap s then runCommand s else hostRead gap width off rest s

end Sys2Proof.Machine
end

