-- ==== Sys2Proof/Machine/Step.lean ====
section
/-! DEFINITION. One step of the block. -/

namespace Sys2Proof.Machine

/-- One step: the host's next action, or the completion of the command in progress. -/
def step (s : State) : Host.Outcome State Fault Refusal := hostStep s

/-- The state in which the very next step runs the command word `w`: the word is issued, its last cycle of BUSY is
running, and the host waits (30_encoding.md R71, R80). notes/assumptions/1.md says how a program comes to run. -/
def State.withFetchWord (s : State) (nbits w : Nat) : State :=
  { s with busy := true, cmd := tableWord nbits w, cyclesLeft := 1, host := .wait :: s.host }

end Sys2Proof.Machine
end

