-- ==== Sys2Proof/Machine/HostProgram.lean ====
section
/-! DEFINITION. What a host writes for a command or a pseudo-command of 30_encoding.md R79 to R85: lists of host actions.
Every access has gap 0, since each stands after a `wait` or while BUSY = 0 (notes/assumptions/19.md). -/

namespace Sys2Proof.Machine

/-- `sw off, v` (R80). -/
def sw (off : Nat) (v : Word) : HostAction := .write 0 .word (BitVec.ofNat 8 off) v

/-- `lw off` (R80). -/
def lw (off : Nat) : HostAction := .read 0 .word (BitVec.ofNat 8 off)

/-- One command word written to CMD, then `wait` (R79, R80, 70_reset_and_hazards.md R193). -/
def command (i : Instr) : List HostAction := [sw 0x000 (encode i), .wait]

/-- `ceil(n / k)`. -/
def ceilDiv (n k : Nat) : Nat := (n + (k - 1)) / k

/-- The `ceil(n/4)` writes of a byte string into the buffer at `base` (R81). -/
def loadAt (base : Nat) (B : List Byte) : List HostAction :=
  (List.range (ceilDiv B.length 4)).map fun w => sw (base + 4 * w) (wordAt B w)

/-- `LOADKEY k` (R81, for a k of at most 64 bytes). -/
def loadKey (k : List Byte) : List HostAction := loadAt 0x040 k

/-- `LOADDIN d` (R81, for a d of at most 64 bytes). -/
def loadDin (d : List Byte) : List HostAction := loadAt 0x080 d

/-- `LOADEXP e` (R81, for an e of at most 32 bytes). -/
def loadExp (e : List Byte) : List HostAction := loadAt 0x0C0 e

/-- The SET_MODE instruction of a mode; MODE = NONE has none (30_encoding.md R76). -/
def setModeInstr (m : Mode) : Option Instr :=
  match m with
  | .none => Option.none
  | .omac => some .setModeOmac
  | .tmac => some .setModeTmac
  | .hmac => some .setModeHmac

/-- `SETUP k, m` (R82). -/
def setup (k : List Byte) (m : Mode) : Option (List HostAction) :=
  (setModeInstr m).map fun i => loadKey k ++ command (.setKey k.length) ++ command i

/-- `RESETCORE` with m the current MODE (R83); "With MODE = NONE there is no legal expansion". -/
def resetCore (m : Mode) : Option (List HostAction) := (setModeInstr m).map command

/-- The blocks `d[kj : min(kj+k, n)]` for j below `count` (R84). -/
def chunks (k count : Nat) (d : List Byte) : List (List Byte) :=
  (List.range count).map fun j => (d.drop (k * j)).take k

/-- The blocks of a message in the given mode (R84): in a CMAC mode 16 bytes each, at least one; in HMAC mode 64 bytes
each, none for the empty message. MODE = NONE has no expansion (see `compute`), and its value here is not used. -/
def messageBlocks (m : Mode) (d : List Byte) : List (List Byte) :=
  match m with
  | .none => []
  | .omac => chunks 16 (max 1 (ceilDiv d.length 16)) d
  | .tmac => chunks 16 (max 1 (ceilDiv d.length 16)) d
  | .hmac => chunks 64 (ceilDiv d.length 64) d

/-- The tag length of a mode in bytes (00_scope.md R12). -/
def tagBytes (m : Mode) : Nat :=
  match m with
  | .none => 0
  | .omac => 16
  | .tmac => 8
  | .hmac => 32

/-- The ADD_BLOCK sequence of R84. -/
def feedMessage (m : Mode) (d : List Byte) : List HostAction :=
  (messageBlocks m d).flatMap fun b => loadDin b ++ command (.addBlock b.length)

/-- The reads of `TAG[0:TAGLEN]` (R84). -/
def readTag (m : Mode) : List HostAction := (List.range (tagBytes m / 4)).map fun w => lw (0x0E0 + 4 * w)

/-- `COMPUTE d` in the current mode (R84). The spec gives an expansion for OMAC, TMAC and HMAC only; for MODE = NONE the
model gives none. DESIGN CHOICE, safe: notes/assumptions/22.md. -/
def compute (m : Mode) (d : List Byte) : Option (List HostAction) :=
  (setModeInstr m).map fun _ => feedMessage m d ++ command .finalize ++ readTag m

/-- `VERIFYMAC d, e` in the current mode (R85); the result is bit 1 of the value read last. The spec gives an expansion
for OMAC, TMAC and HMAC only; for MODE = NONE the model gives none. DESIGN CHOICE, safe: notes/assumptions/22.md. -/
def verifyMac (m : Mode) (d e : List Byte) : Option (List HostAction) :=
  (setModeInstr m).map fun _ => loadExp e ++ feedMessage m d ++ command .verify ++ [lw 0x004]

end Sys2Proof.Machine
end

