-- ==== Sys2Proof/Safety.lean ====
section
/-! DEFINITION. What counts as a well-formed state (10_state.md R37) and as a fault of the host program (20_memory.md R53,
70_reset_and_hazards.md R192). -/

namespace Sys2Proof.Machine

/-- The clauses of 10_state.md R37, the padding bytes of R22, R26 and R33, the ranges of the lengths, and the model's own
fields. -/
structure Inv (s : State) : Prop where
  /-- R37.1; before a SET_KEY the key registers have their reset values (R22). -/
  unkeyed : s.keySet = false → s.mode = .none ∧ s.keyLen = 0
  /-- R22: legal values 1 to 64 once a key is set. -/
  keyed : s.keySet = true → 1 ≤ s.keyLen
  /-- R22: KEY_MAX is 64. -/
  keyLen_le : s.keyLen ≤ 64
  /-- R22: `KEY[KEYLEN..63]` are 0x00. -/
  key_tail : ∀ i : Fin 64, s.keyLen ≤ i.val → s.key[i] = 0x00#8
  /-- R37.2. -/
  cmacMode : s.mode = .omac ∨ s.mode = .tmac → s.keyLen = 16 ∧ s.inner = Option.none ∧ s.outer = Option.none
  /-- R37.3. -/
  hmacMode : s.mode = .hmac →
    s.cache = repeatByte 16 0x00#8 ∧ s.lastValid = false ∧ s.inner.isSome = true ∧ s.outer.isSome = true
  /-- R37.4. -/
  noMode : s.mode = .none →
    s.cache = repeatByte 16 0x00#8 ∧ s.lastValid = false ∧ s.inner = Option.none ∧ s.outer = Option.none
  /-- R37.5. -/
  notHeld : s.lastValid = false → s.lastLen = 0 ∧ s.last = repeatByte 16 0x00#8
  /-- R37.6 and R118: a chain value is there only while a later block is held. -/
  notChained : s.lastValid = false → s.cache = repeatByte 16 0x00#8
  /-- R26: LAST_LEN is 0 to 16. -/
  lastLen_le : s.lastLen ≤ 16
  /-- R26: `LAST[LAST_LEN..15]` are 0x00. -/
  last_tail : ∀ i : Fin 16, s.lastLen ≤ i.val → s.last[i] = 0x00#8
  /-- R33: legal values 0, 8, 16 and 32. -/
  tagLen_legal : s.tagLen = 0 ∨ s.tagLen = 8 ∨ s.tagLen = 16 ∨ s.tagLen = 32
  /-- R33: `TAG[TAGLEN..31]` are 0x00. -/
  tag_tail : ∀ i : Fin 32, s.tagLen ≤ i.val → s.tag[i] = 0x00#8
  /-- R37.7: between commands nothing runs. -/
  idle : s.busy = false → s.cmd = 0#32 ∧ s.cyclesLeft = 0
  /-- R190: while a command runs BUSY lasts at least one cycle more. -/
  running : s.busy = true → 1 ≤ s.cyclesLeft

/-- In HMAC mode OUTER is the seed of the latched key and INNER is its seed fed with some message (42_hmac_core.md R131,
R133, R135). -/
structure Seeded (s : State) : Prop where
  outer : s.mode = .hmac → s.outer = some (seedOuter (hmacKey s))
  inner : s.mode = .hmac → ∃ m : List Byte, s.inner = some (hUpdate (seedInner (hmacKey s)) m)

/-- The host's next access is a fault of the host program: the block refuses it (20_memory.md R53), or it is a write that
reaches the block while BUSY = 1 (70_reset_and_hazards.md R192). An access that comes after the command in progress
completes is not yet next. -/
def hostProgramFault (s : State) : Bool :=
  match s.host with
  | [] => false
  | .wait :: _ => false
  | .reset :: _ => false
  | .write gap width off _ :: _ => !completesBefore gap s && (!accessTaken width off || s.busy)
  | .read gap width off :: _ => !completesBefore gap s && !accessTaken width off

/-- A run of k steps in which the host program commits no fault. -/
def SafeFor (k : Nat) (s : State) : Prop :=
  match k with
  | 0 => True
  | k + 1 =>
    hostProgramFault s = false ∧
      match step s with
      | .next t => SafeFor k t
      | .fault _ => False
      | .refused _ => False

end Sys2Proof.Machine
end

