-- ==== Sys2Proof/Certificates/Slice0/Obligations.lean ====
section
/-! DEFINITION. The statements for the provers. Words of the statements stand in `Sys2Proof.Claims`, written from the
spec's own formulas and index by index, not from the model's definitions. -/

namespace Sys2Proof.Claims

open Sys2Proof.Machine

/-- `k` steps, as long as none stops. -/
def run (k : Nat) (s : State) : Result :=
  match k with
  | 0 => .next s
  | k + 1 =>
    match step s with
    | .next t => run k t
    | .fault r => .fault r
    | .refused r => .refused r

/-- `0x00^n`. -/
def zeros (n : Nat) : Bytes n := Vector.ofFn fun _ => 0x00#8

/-- The bytewise exclusive or of two blocks (00_scope.md R15). -/
def xorBlock (A B : Block) : Block := Vector.ofFn fun i => A[i.val] ^^^ B[i.val]

/-- What an error leaves: ERR and BUSY written and nothing else, and no command in progress (60_exceptions.md R162). -/
def onlyErr (e : ErrCode) (s : State) : State :=
  { s with err := e, busy := false, cmd := 0#32, cyclesLeft := 0 }

/-- The command in progress completes in the next step: the host has nothing more to do, waits, or makes its next access
only after the remaining latency. -/
def Completing (s : State) : Prop :=
  s.busy = true ∧
    match s.host with
    | [] => True
    | .wait :: _ => True
    | .reset :: _ => False
    | .write gap _ _ _ :: _ => s.cyclesLeft ≤ gap
    | .read gap _ _ :: _ => s.cyclesLeft ≤ gap

/-- An access with this gap reaches the block now: no command runs, or the one that runs lasts longer. -/
def ReachesNow (gap : Nat) (s : State) : Prop := s.busy = true → gap < s.cyclesLeft

/-- `KEY[0:16]`, the key of the cipher port (10_state.md R24). -/
def keyBlock (s : State) : Block := Vector.ofFn fun i => s.key[i.val]

/-- The length of the final block: that of the held block, 0 when nothing is held (41_cmac_core.md R119). -/
def finalLen (s : State) : Nat := if s.lastValid then s.lastLen else 0

/-- The final block under `pad_iso` (41_cmac_core.md R116), or whole when it has 16 bytes. -/
def isoFinal (s : State) : Block :=
  Vector.ofFn fun i =>
    if i.val < finalLen s then s.last[i] else if i.val = finalLen s then 0x80#8 else 0x00#8

/-- The final block under `pad_pkcs7` (41_cmac_core.md R117), or whole when it has 16 bytes. -/
def pkcsFinal (s : State) : Block :=
  Vector.ofFn fun i => if i.val < finalLen s then s.last[i] else BitVec.ofNat 8 (16 - finalLen s)

/-- The CMAC tag of R119 from the chain value and the masked final block: K1 for a full block, K2 for a padded one. -/
def cmacTagOf (k : Block) (n : Nat) (cache final : Block) : Block :=
  let K1 := dbl (Config.enc k (zeros 16))
  let K2 := dbl K1
  if n = 16 then Config.enc k (xorBlock (xorBlock cache final) K1)
  else Config.enc k (xorBlock (xorBlock cache final) K2)

/-- The key padded to 64 bytes and XORed with a pad byte (42_hmac_core.md R130, R131). -/
def seedBlock (c : Byte) (s : State) : List Byte :=
  (Vector.ofFn fun i : Fin 64 => (if i.val < s.keyLen then s.key[i] else 0x00#8) ^^^ c).toList

/-- The error a command reports, in the order of 60_exceptions.md R161; `ok` when no cause applies. -/
def expectedError (i : Instr) (s : State) : ErrCode :=
  match i with
  | .setKey len => if len = 0 ∨ 64 < len then .invalidKeyLength else .ok
  | .setModeOmac => if s.keySet = false then .keyNotSet else if s.keyLen ≠ 16 then .invalidKeyLength else .ok
  | .setModeTmac => if s.keySet = false then .keyNotSet else if s.keyLen ≠ 16 then .invalidKeyLength else .ok
  | .setModeHmac => if s.keySet = false then .keyNotSet else .ok
  | .addBlock len =>
    if s.keySet = false then .keyNotSet
    else if s.mode = .none then .modeNotSet
    else if (s.mode = .hmac ∧ 64 < len) ∨ (s.mode ≠ .hmac ∧ 16 < len) then .invalidDataLength
    else if s.mode ≠ .hmac ∧ s.lastValid = true ∧ s.lastLen < 16 then .sequence
    else .ok
  | .finalize => if s.keySet = false then .keyNotSet else if s.mode = .none then .modeNotSet else .ok
  | .verify => if s.keySet = false then .keyNotSet else if s.mode = .none then .modeNotSet else .ok

/-- The number of each result code (60_exceptions.md R160). -/
def codeOf (e : ErrCode) : Nat :=
  match e with
  | .ok => 0
  | .keyNotSet => 1
  | .modeNotSet => 2
  | .invalidKeyLength => 3
  | .illegalCmd => 4
  | .invalidDataLength => 5
  | .sequence => 6

/-- The words that 30_encoding.md R76 lists as illegal. -/
def IllegalWord (w : Word) : Prop :=
  let op := (w.extractLsb' 0 4).toNat
  let mode := (w.extractLsb' 4 2).toNat
  let len := (w.extractLsb' 8 7).toNat
  op = 0 ∨ 6 ≤ op ∨ w.extractLsb' 6 2 ≠ 0#2 ∨ w.extractLsb' 15 17 ≠ 0#17 ∨
    (op = 2 ∧ (mode = 0 ∨ len ≠ 0)) ∨ ((op = 1 ∨ op = 3) ∧ mode ≠ 0) ∨
    ((op = 4 ∨ op = 5) ∧ (mode ≠ 0 ∨ len ≠ 0))

/-- The SET_MODE command of a CMAC mode. -/
def setCmac (m : Mode) : Instr := if m = .omac then .setModeOmac else .setModeTmac

/-- A CMAC mode (00_scope.md R2). -/
def IsCmac (m : Mode) : Prop := m = .omac ∨ m = .tmac

/-- DIN after the host has loaded `d` at its start (30_encoding.md R81). -/
def loaded (d : List Byte) (s : State) : State :=
  { s with din := Vector.ofFn fun i => if i.val < d.length then d.getD i.val 0x00#8 else s.din[i] }

/-- One ADD_BLOCK per byte string, each loaded into DIN first (30_encoding.md R84, at the level of commands). -/
def feed (ds : List (List Byte)) (s : State) : Result :=
  match ds with
  | [] => .next s
  | d :: rest =>
    match exec (.addBlock d.length) (loaded d s) with
    | .next t => feed rest t
    | .fault r => .fault r
    | .refused r => .refused r

/-- The blocks of a message in a CMAC mode, as 30_encoding.md R84 splits it: joined they are the message, there is at least
one, every one but the last has 16 bytes, and the last has at most 16, none only for the empty message. -/
def IsSplit (d : List Byte) (bs : List (List Byte)) : Prop :=
  bs.flatten = d ∧ bs ≠ [] ∧ (∀ b ∈ bs.dropLast, b.length = 16) ∧
    ∀ b ∈ bs.getLast?, b.length ≤ 16 ∧ (b = [] → d = [])

/-- `Hash(m)` of 42_hmac_core.md R134: the digest of a fresh context fed with m, through the port of 00_scope.md R9. -/
def hashOf (m : List Byte) : Bytes 32 := hDigest (hUpdate hInit m)

/-- A byte string of at most 16 bytes as a block, zeros behind it. -/
def blockOf (b : List Byte) : Block := Vector.ofFn fun i => b.getD i.val 0x00#8

/-- A short final block with the mode's padding; a full one as it is (41_cmac_core.md R116, R117). -/
def padded (m : Mode) (b : List Byte) : Block :=
  Vector.ofFn fun i =>
    if i.val < b.length then b.getD i.val 0x00#8
    else if m = .tmac then BitVec.ofNat 8 (16 - b.length)
    else if i.val = b.length then 0x80#8
    else 0x00#8

/-- `cmac_msg` of 41_cmac_core.md R122 from the chain value `c` on. -/
def cmacMsg (k : Block) (m : Mode) (c : Block) (bs : List (List Byte)) : Block :=
  match bs with
  | [] => cmacTagOf k 0 c (padded m [])
  | [b] => cmacTagOf k b.length c (padded m b)
  | b :: b' :: rest => cmacMsg k m (Config.enc k (xorBlock c (blockOf b))) (b' :: rest)

/-- What the host can see of a state (20_memory.md R52: every register but the key, and no internal value). -/
def SameInView (a b : State) : Prop :=
  a.keySet = b.keySet ∧ a.keyLen = b.keyLen ∧ a.mode = b.mode ∧ a.lastLen = b.lastLen ∧ a.lastValid = b.lastValid ∧
    a.din = b.din ∧ a.exp = b.exp ∧ a.tag = b.tag ∧ a.tagLen = b.tagLen ∧ a.busy = b.busy ∧
    a.matched = b.matched ∧ a.ovr = b.ovr ∧ a.err = b.err

/-- Accesses the block takes (20_memory.md R53): 32 bits wide at multiples of 4. -/
def IsTaken (x : HostAction) : Prop :=
  match x with
  | .write _ width off _ => width = .word ∧ off.toNat % 4 = 0
  | .read _ width off => width = .word ∧ off.toNat % 4 = 0
  | .wait => False
  | .reset => False

/-- The cycles that pass before an access. -/
def gapOf (x : HostAction) : Nat :=
  match x with
  | .write gap _ _ _ => gap
  | .read gap _ _ => gap
  | .wait => 0
  | .reset => 0

/-- The words the reads among some accesses return while a command runs: the values before the command, but for OVR,
which a write dropped earlier has set (20_memory.md R62, 70_reset_and_hazards.md R192). -/
def valuesRead (during : List HostAction) (s : State) : List Word :=
  match during with
  | [] => []
  | .write _ _ _ _ :: rest => valuesRead rest { s with ovr := true }
  | .read _ _ off :: rest => windowRead off s :: valuesRead rest s
  | .wait :: rest => valuesRead rest s
  | .reset :: rest => valuesRead rest s

/-- Whether an action is a write. -/
def isWrite (x : HostAction) : Bool :=
  match x with
  | .write _ _ _ _ => true
  | .read _ _ _ => false
  | .wait => false
  | .reset => false

end Sys2Proof.Claims

open Sys2Proof Sys2Proof.Machine Sys2Proof.Claims

/-! ### Encoding -/

/-- Decoding the word of a well-formed instruction gives the instruction back, with every LEN its field admits. -/
def Obligations.DecodeInvertsEncode : Prop :=
  ∀ i : Instr, WellFormed i → decode (encode i) = .ok i

/-- Every legal word is the word of exactly the instruction it decodes to. -/
def Obligations.EncodeInvertsDecode : Prop :=
  ∀ (w : Word) (i : Instr), decode w = .ok i → WellFormed i ∧ encode i = w

/-- 30_encoding.md R77: the opcode map as match and mask, and the LEN fields. -/
def Obligations.DecodeFollowsMatchAndMask : Prop :=
  ∀ w : Word,
    (∀ n, decode w = .ok (.setKey n) ↔ w &&& 0xFFFF80FF#32 = 0x00000001#32 ∧ n = (w.extractLsb' 8 7).toNat) ∧
    (decode w = .ok .setModeOmac ↔ w &&& 0xFFFFFFFF#32 = 0x00000012#32) ∧
    (decode w = .ok .setModeTmac ↔ w &&& 0xFFFFFFFF#32 = 0x00000022#32) ∧
    (decode w = .ok .setModeHmac ↔ w &&& 0xFFFFFFFF#32 = 0x00000032#32) ∧
    (∀ n, decode w = .ok (.addBlock n) ↔ w &&& 0xFFFF80FF#32 = 0x00000003#32 ∧ n = (w.extractLsb' 8 7).toNat) ∧
    (decode w = .ok .finalize ↔ w &&& 0xFFFFFFFF#32 = 0x00000004#32) ∧
    (decode w = .ok .verify ↔ w &&& 0xFFFFFFFF#32 = 0x00000005#32) ∧
    ((∃ e, decode w = .error e) ↔
      w &&& 0xFFFF80FF#32 ≠ 0x00000001#32 ∧ w ≠ 0x00000012#32 ∧ w ≠ 0x00000022#32 ∧ w ≠ 0x00000032#32 ∧
        w &&& 0xFFFF80FF#32 ≠ 0x00000003#32 ∧ w ≠ 0x00000004#32 ∧ w ≠ 0x00000005#32)

/-- 30_encoding.md R76: exactly the listed words are illegal, and each completes with ILLEGAL_CMD and no other effect. -/
def Obligations.IllegalWordsCompleteWithIllegalCmd : Prop :=
  ∀ w : Word,
    ((∃ e, decode w = .error e) ↔ IllegalWord w) ∧
    ∀ s : State, IllegalWord w → s.cmd = w → Completing s → step s = .next (onlyErr .illegalCmd s)

/-- 30_encoding.md R86: the worked encodings, in both directions, and its illegal examples, each for the reason given. -/
def Obligations.WorkedEncodingsDecode : Prop :=
  (∀ p ∈ [(Instr.setKey 16, 0x00001001#32), (.setKey 20, 0x00001401#32), (.setKey 64, 0x00004001#32),
      (.setModeOmac, 0x00000012#32), (.addBlock 16, 0x00001003#32), (.addBlock 0, 0x00000003#32),
      (.addBlock 8, 0x00000803#32), (.addBlock 64, 0x00004003#32), (.finalize, 0x00000004#32),
      (.verify, 0x00000005#32)], encode p.1 = p.2 ∧ decode p.2 = .ok p.1) ∧
  decode 0x00000000#32 = .error .noSuchOp ∧ decode 0x00000002#32 = .error .setModeNone ∧
  decode 0x00001004#32 = .error .lenNotZero ∧ decode 0x00008003#32 = .error .reservedBit ∧
  decode 0x00000013#32 = .error .modeNotZero

/-! ### The step and the BUSY protocol -/

/-- A step that completes the command in progress runs the instruction its word decodes to. -/
def Obligations.StepRunsTheDecodedCommand : Prop :=
  ∀ (s : State) (i : Instr), Completing s → decode s.cmd = .ok i → step s = exec i s

/-- The word of a well-formed instruction written to CMD while BUSY = 0 makes BUSY 1, and with the host waiting the
next step runs that instruction. -/
def Obligations.WrittenCommandRunsNext : Prop :=
  ∀ (s : State) (i : Instr) (gap : Nat) (rest : List HostAction), WellFormed i → s.busy = false →
    s.host = .write gap .word 0x00#8 (encode i) :: .wait :: rest →
    ∃ n, 1 ≤ n ∧
      let mid : State := { s with busy := true, cmd := encode i, cyclesLeft := n, host := .wait :: rest }
      step s = .next mid ∧ step mid = exec i mid

/-- 70_reset_and_hazards.md R191: a command's result does not depend on the BUSY interval, on OVR, on what the host still
does or on what it has read; those it leaves alone (but for BUSY and the command in progress, which end). -/
def Obligations.ExecIgnoresBusyInterval : Prop :=
  ∀ (i : Instr) (s t : State) (b o : Bool) (c : Word) (n : Nat) (h : List HostAction) (r : List Word),
    exec i s = .next t →
      t.ovr = s.ovr ∧ t.host = s.host ∧ t.reads = s.reads ∧
      exec i { s with busy := b, ovr := o, cmd := c, cyclesLeft := n, host := h, reads := r } =
        .next { t with ovr := o, host := h, reads := r }

/-- 70_reset_and_hazards.md R192, over any number of accesses inside one BUSY interval: all they leave is OVR, the values
read, which are those before the command, and the cycles gone by; then the command completes with the result of its state
at issue. The run goes on past a dropped write (notes/assumptions/3.md). -/
def Obligations.AccessesWhileBusyDoNotDisturbTheCommand : Prop :=
  ∀ (s : State) (during rest : List HostAction) (i : Instr), s.busy = true → decode s.cmd = .ok i →
    (∀ x ∈ during, IsTaken x) → (during.map gapOf).sum < s.cyclesLeft → s.host = during ++ .wait :: rest →
    ∃ t : State, exec i s = .next t ∧
      run (during.length + 1) s =
        .next { t with
          ovr := s.ovr || during.any isWrite, reads := s.reads ++ valuesRead during s, host := .wait :: rest }

/-- 70_reset_and_hazards.md R192, one access: a write while BUSY is dropped and sets OVR, and is a fault of the host
program; a read while BUSY returns the value from before the command. That the step goes on past a dropped write is the
model's reading (notes/assumptions/3.md), and that an access lands inside BUSY when its gap is shorter than the cycles left
is its input convention (notes/assumptions/8.md). -/
def Obligations.WriteWhileBusyIsDropped : Prop :=
  ∀ (s : State) (gap : Nat) (off : BitVec 8) (rest : List HostAction), s.busy = true → gap < s.cyclesLeft →
    off.toNat % 4 = 0 →
    (∀ v, s.host = .write gap .word off v :: rest →
      hostProgramFault s = true ∧
      step s = .next { s with ovr := true, cyclesLeft := s.cyclesLeft - gap, host := rest }) ∧
    (s.host = .read gap .word off :: rest →
      step s =
        .next { s with reads := s.reads ++ [windowRead off s], cyclesLeft := s.cyclesLeft - gap, host := rest }) ∧
    (windowRead 0x04#8 s).getLsbD 0 = true

/-- 20_memory.md R53: an access of another width or off a multiple of 4 that reaches the block is refused. -/
def Obligations.RefusedAccessIsABusError : Prop :=
  ∀ (s : State) (gap : Nat) (width : Width) (off : BitVec 8) (rest : List HostAction), ReachesNow gap s →
    width ≠ .word ∨ off.toNat % 4 ≠ 0 →
    ((∃ v, s.host = .write gap width off v :: rest) ∨ s.host = .read gap width off :: rest) →
    hostProgramFault s = true ∧ step s = .fault .busError

/-- Every step in which the host program commits no fault goes on, and sets no OVR. -/
def Obligations.FaultlessStepGoesOn : Prop :=
  ∀ s : State, hostProgramFault s = false → ∃ t, step s = .next t ∧ (t.ovr = true → s.ovr = true)

/-- 60_exceptions.md R169, 92_eei_decisions.md D33: every command completes, in every state. -/
def Obligations.EveryCommandCompletes : Prop :=
  ∀ (i : Instr) (s : State), ∃ t, exec i s = .next t ∧ t.busy = false ∧ t.cyclesLeft = 0

/-! ### The window -/

/-- 20_memory.md R57: what a host write does while BUSY = 0. -/
def Obligations.HostWriteEffects : Prop :=
  ∀ (s : State) (gap : Nat) (off : BitVec 8) (v : Word) (rest : List HostAction), s.busy = false →
    off.toNat % 4 = 0 → s.host = .write gap .word off v :: rest →
    (off = 0x00#8 → ∃ n, 1 ≤ n ∧ step s = .next { s with busy := true, cmd := v, cyclesLeft := n, host := rest }) ∧
    (off = 0x04#8 → step s = .next { s with ovr := if v.getLsbD 2 then false else s.ovr, host := rest }) ∧
    (0x08 ≤ off.toNat ∧ off.toNat < 0x40 → step s = .next { s with host := rest }) ∧
    (0x40 ≤ off.toNat ∧ off.toNat < 0x80 → ∃ B : Bytes 64, step s = .next { s with keyIn := B, host := rest } ∧
      ∀ i : Fin 64, B[i] = if i.val / 4 = (off.toNat - 0x40) / 4 then v.extractLsb' (8 * (i.val % 4)) 8 else s.keyIn[i]) ∧
    (0x80 ≤ off.toNat ∧ off.toNat < 0xC0 → ∃ B : Bytes 64, step s = .next { s with din := B, host := rest } ∧
      ∀ i : Fin 64, B[i] = if i.val / 4 = (off.toNat - 0x80) / 4 then v.extractLsb' (8 * (i.val % 4)) 8 else s.din[i]) ∧
    (0xC0 ≤ off.toNat ∧ off.toNat < 0xE0 → ∃ B : Bytes 32, step s = .next { s with exp := B, host := rest } ∧
      ∀ i : Fin 32, B[i] = if i.val / 4 = (off.toNat - 0xC0) / 4 then v.extractLsb' (8 * (i.val % 4)) 8 else s.exp[i]) ∧
    (0xE0 ≤ off.toNat → step s = .next { s with host := rest })

/-- 20_memory.md R57: a read returns the word of the map at its offset and changes nothing else; a second read of the offset
returns it again. -/
def Obligations.ReadsHaveNoSideEffect : Prop :=
  ∀ (s : State) (gap gap' : Nat) (off : BitVec 8) (rest : List HostAction), s.busy = false → off.toNat % 4 = 0 →
    s.host = .read gap .word off :: .read gap' .word off :: rest →
    ∃ n n' : Nat,
      step s =
        .next { s with
          reads := s.reads ++ [windowRead off s], cyclesLeft := n, host := .read gap' .word off :: rest } ∧
      run 2 s =
        .next { s with
          reads := s.reads ++ [windowRead off s, windowRead off s], cyclesLeft := n', host := rest } ∧
      (s.cyclesLeft = 0 → n = 0 ∧ n' = 0)

/-- 20_memory.md R52 and R54: what each offset reads as; the buffers in little-endian lanes. -/
def Obligations.WindowReadsFollowTheMap : Prop :=
  ∀ (s : State) (off : BitVec 8), off.toNat % 4 = 0 →
    (off = 0x00#8 ∨ (0x0C ≤ off.toNat ∧ off.toNat < 0x80) → windowRead off s = 0#32) ∧
    (∀ w : Fin 16, off.toNat = 0x80 + 4 * w.val →
      (windowRead off s).toNat = s.din[4 * w.val].toNat + s.din[4 * w.val + 1].toNat * 2 ^ 8 +
        s.din[4 * w.val + 2].toNat * 2 ^ 16 + s.din[4 * w.val + 3].toNat * 2 ^ 24) ∧
    (∀ w : Fin 8, off.toNat = 0xC0 + 4 * w.val →
      (windowRead off s).toNat = s.exp[4 * w.val].toNat + s.exp[4 * w.val + 1].toNat * 2 ^ 8 +
        s.exp[4 * w.val + 2].toNat * 2 ^ 16 + s.exp[4 * w.val + 3].toNat * 2 ^ 24) ∧
    (∀ w : Fin 8, off.toNat = 0xE0 + 4 * w.val →
      (windowRead off s).toNat = s.tag[4 * w.val].toNat + s.tag[4 * w.val + 1].toNat * 2 ^ 8 +
        s.tag[4 * w.val + 2].toNat * 2 ^ 16 + s.tag[4 * w.val + 3].toNat * 2 ^ 24)

/-- 10_state.md R34: the fields of STATUS, with the codes of 60_exceptions.md R160. -/
def Obligations.StatusShowsItsFields : Prop :=
  ∀ s : State, s.tagLen < 64 →
    let w := windowRead 0x04#8 s
    w.getLsbD 0 = s.busy ∧ w.getLsbD 1 = s.matched ∧ w.getLsbD 2 = s.ovr ∧ w.getLsbD 3 = false ∧
      (w.extractLsb' 4 3).toNat = codeOf s.err ∧ w.getLsbD 7 = false ∧ (w.extractLsb' 8 6).toNat = s.tagLen ∧
      w.extractLsb' 14 18 = 0#18

/-- 10_state.md R35: the fields of INFO, with the MODE encoding of R23. -/
def Obligations.InfoShowsItsFields : Prop :=
  ∀ s : State, s.keyLen < 128 → s.lastLen < 32 →
    let w := windowRead 0x08#8 s
    w.getLsbD 0 = s.keySet ∧
      (w.extractLsb' 1 2).toNat = (match s.mode with | .none => 0 | .omac => 1 | .tmac => 2 | .hmac => 3) ∧
      w.getLsbD 3 = s.lastValid ∧ (w.extractLsb' 4 5).toNat = s.lastLen ∧ w.extractLsb' 9 7 = 0#7 ∧
      (w.extractLsb' 16 7).toNat = s.keyLen ∧ w.extractLsb' 23 9 = 0#9

/-- 20_memory.md R60: a word written to DIN or EXP reads back. -/
def Obligations.BufferWordReadsBack : Prop :=
  ∀ (s : State) (gap gap' : Nat) (off : BitVec 8) (v : Word) (rest : List HostAction), s.busy = false →
    off.toNat % 4 = 0 → 0x80 ≤ off.toNat → off.toNat < 0xE0 →
    s.host = .write gap .word off v :: .read gap' .word off :: rest →
    ∃ t, run 2 s = .next t ∧ t.reads = s.reads ++ [v] ∧ t.host = rest

/-- 30_encoding.md R81: LOADKEY, LOADDIN and LOADEXP, each one write per word; the last word is filled with 0x00, and the
bytes past it and everything else stay. -/
def Obligations.LoadsWriteTheBuffers : Prop :=
  ∀ (s : State) (b : List Byte) (rest : List HostAction), s.busy = false →
    (b.length ≤ 64 → s.host = loadKey b ++ rest →
      ∃ B : Bytes 64, run ((b.length + 3) / 4) s = .next { s with keyIn := B, host := rest } ∧
        ∀ i : Fin 64, B[i] = if i.val < 4 * ((b.length + 3) / 4) then b.getD i.val 0x00#8 else s.keyIn[i]) ∧
    (b.length ≤ 64 → s.host = loadDin b ++ rest →
      ∃ B : Bytes 64, run ((b.length + 3) / 4) s = .next { s with din := B, host := rest } ∧
        ∀ i : Fin 64, B[i] = if i.val < 4 * ((b.length + 3) / 4) then b.getD i.val 0x00#8 else s.din[i]) ∧
    (b.length ≤ 32 → s.host = loadExp b ++ rest →
      ∃ B : Bytes 32, run ((b.length + 3) / 4) s = .next { s with exp := B, host := rest } ∧
        ∀ i : Fin 32, B[i] = if i.val < 4 * ((b.length + 3) / 4) then b.getD i.val 0x00#8 else s.exp[i])

/-- 20_memory.md R59: no read shows KEY, KEY_IN, CACHE, LAST, INNER or OUTER. -/
def Obligations.SecretsAreNotReadable : Prop :=
  ∀ (a b : State) (gap : Nat) (off : BitVec 8) (rest : List HostAction), SameInView a b → ReachesNow gap a →
    ReachesNow gap b → off.toNat % 4 = 0 → a.host = .read gap .word off :: rest → b.host = a.host →
    ∃ (v : Word) (ta tb : State), step a = .next ta ∧ step b = .next tb ∧
      ta.reads = a.reads ++ [v] ∧ tb.reads = b.reads ++ [v] ∧ SameInView ta tb

/-- 20_memory.md R50: the window is 256 bytes at an address aligned to 256. -/
def Obligations.AddressSelectsOffset : Prop :=
  ∀ off : BitVec 8, windowOffset (hostAddress off) = some off ∧ hostAddress off % 256 = off.toNat ∧
    ∀ addr, windowOffset addr = some off → addr = hostAddress off

/-! ### Setup commands -/

/-- 40_setup.md R100: SET_KEY of a legal length. -/
def Obligations.SetKeyLatchesTheKey : Prop :=
  ∀ (len : Nat) (s : State), 1 ≤ len → len ≤ 64 →
    ∃ t, exec (.setKey len) s = .next t ∧
      (∀ i : Fin 64, t.key[i] = if i.val < len then s.keyIn[i] else 0x00#8) ∧
      t = { s with
        key := t.key, keyLen := len, keySet := true, mode := .none, cache := zeros 16, last := zeros 16, lastLen := 0,
        lastValid := false, inner := Option.none, outer := Option.none, matched := false, err := .ok, busy := false,
        cmd := 0#32, cyclesLeft := 0 }

/-- 40_setup.md R101 and 41_cmac_core.md R114: SET_MODE to OMAC or TMAC with a 16-byte key. -/
def Obligations.SetModeStartsTheCmacCore : Prop :=
  ∀ (m : Mode) (s : State), IsCmac m → s.keySet = true → s.keyLen = 16 →
    exec (setCmac m) s = .next { s with
      mode := m, cache := zeros 16, last := zeros 16, lastLen := 0, lastValid := false, inner := Option.none,
      outer := Option.none, matched := false, err := .ok, busy := false, cmd := 0#32, cyclesLeft := 0 }

/-- 40_setup.md R101, 42_hmac_core.md R130 to R132: SET_MODE to HMAC with a key of any length. The contexts are the hash
port's (notes/assumptions/6.md). -/
def Obligations.SetModeSeedsTheHmacCore : Prop :=
  ∀ s : State, s.keySet = true →
    exec .setModeHmac s = .next { s with
      mode := .hmac, cache := zeros 16, last := zeros 16, lastLen := 0, lastValid := false,
      inner := some (hUpdate hInit (seedBlock 0x36#8 s)), outer := some (hUpdate hInit (seedBlock 0x5c#8 s)),
      matched := false, err := .ok, busy := false, cmd := 0#32, cyclesLeft := 0 }

/-! ### Errors -/

/-- 60_exceptions.md R160 and R161: the one error each command reports in each state, with its code in STATUS.ERR; an
illegal word reports ILLEGAL_CMD whatever the state. -/
def Obligations.ErrorsAreReportedInOrder : Prop :=
  (∀ (i : Instr) (s : State), ∃ t, exec i s = .next t ∧ t.err = expectedError i s ∧
    ((statusWord t).extractLsb' 4 3).toNat = codeOf (expectedError i s)) ∧
  (∀ (s : State) (e : Illegal), Completing s → decode s.cmd = .error e →
    ∃ t, step s = .next t ∧ t.err = .illegalCmd ∧ ((statusWord t).extractLsb' 4 3).toNat = 4) ∧
  (∀ (i : Instr) (s : State), Inv s → s.keySet = false → expectedError i s ≠ .modeNotSet)

/-- 60_exceptions.md R162: a command that ends in an error changes nothing but ERR and BUSY. -/
def Obligations.ErrorChangesOnlyErr : Prop :=
  ∀ (i : Instr) (s t : State), exec i s = .next t → t.err ≠ .ok → t = onlyErr t.err s

/-- 43_commands.md R146: MATCH keeps the result of the last VERIFY until the next command that completes without error:
a command that completes with an error keeps it, every other one but VERIFY clears it, a VERIFY writes its own result, and
no other step but a reset changes it. -/
def Obligations.MatchLastsUntilTheNextSuccess : Prop :=
  ∀ s t : State, step s = .next t →
    (Completing s →
      (t.err ≠ .ok → t.matched = s.matched) ∧
      (t.err = .ok → decode s.cmd ≠ .ok .verify → t.matched = false) ∧
      (t.err = .ok → decode s.cmd = .ok .verify →
        ∃ u, exec .finalize s = .next u ∧ (t.matched = true ↔ ∀ i : Fin 32, i.val < u.tagLen → u.tag[i] = s.exp[i]))) ∧
    (¬Completing s → (∀ rest, s.host ≠ .reset :: rest) → t.matched = s.matched)

/-! ### The CMAC core -/

/-- 41_cmac_core.md R110: doubling, byte by byte. -/
def Obligations.DoublingShiftsAndReduces : Prop :=
  ∀ B : Block,
    (∀ i : Fin 15, (dbl B)[i.val] = (B[i.val] <<< 1) ^^^ (B[i.val + 1] >>> 7)) ∧
    (dbl B)[15] = (B[15] <<< 1) ^^^ (if 0x80 ≤ B[0].toNat then 0x87#8 else 0x00#8)

/-- 41_cmac_core.md R116: ISO/IEC 7816 padding. -/
def Obligations.IsoPaddingBytes : Prop :=
  ∀ (b : List Byte) (i : Fin 16), b.length < 16 →
    (padIso b)[i] = if h : i.val < b.length then b[i.val] else if i.val = b.length then 0x80#8 else 0x00#8

/-- 41_cmac_core.md R117: PKCS#7 padding. -/
def Obligations.PkcsPaddingBytes : Prop :=
  ∀ (b : List Byte) (i : Fin 16), b.length < 16 →
    (padPkcs7 b)[i] = if h : i.val < b.length then b[i.val] else BitVec.ofNat 8 (16 - b.length)

/-- 41_cmac_core.md R115 and R118, 43_commands.md R140: ADD_BLOCK in a CMAC mode with nothing held or a full block held. -/
def Obligations.AddBlockFoldsAndHolds : Prop :=
  ∀ (len : Nat) (s : State), s.keySet = true → IsCmac s.mode → len ≤ 16 → (s.lastValid = true → 16 ≤ s.lastLen) →
    ∃ t, exec (.addBlock len) s = .next t ∧
      (∀ i : Fin 16, t.last[i] = if i.val < len then s.din[i.val] else 0x00#8) ∧
      t = { s with
        cache := if s.lastValid then Config.enc (keyBlock s) (xorBlock s.cache s.last) else s.cache,
        last := t.last, lastLen := len, lastValid := true, matched := false, err := .ok, busy := false, cmd := 0#32,
        cyclesLeft := 0 }

/-- 41_cmac_core.md R118: a short held block may only be final. -/
def Obligations.AddBlockAfterAShortBlockIsASequenceError : Prop :=
  ∀ (len : Nat) (s : State), s.keySet = true → IsCmac s.mode → len ≤ 16 → s.lastValid = true → s.lastLen < 16 →
    exec (.addBlock len) s = .next (onlyErr .sequence s)

/-- 41_cmac_core.md R116, R119, R121, 43_commands.md R141, R144: FINALIZE in OMAC mode. -/
def Obligations.FinalizeWritesTheOmacTag : Prop :=
  ∀ s : State, s.keySet = true → s.mode = .omac → s.lastLen ≤ 16 →
    ∃ t, exec .finalize s = .next t ∧
      (∀ i : Fin 32, t.tag[i] =
        if h : i.val < 16 then (cmacTagOf (keyBlock s) (finalLen s) s.cache (isoFinal s))[i.val] else 0x00#8) ∧
      t = { s with
        tag := t.tag, tagLen := 16, cache := zeros 16, last := zeros 16, lastLen := 0, lastValid := false,
        matched := false, err := .ok, busy := false, cmd := 0#32, cyclesLeft := 0 }

/-- 41_cmac_core.md R117, R119, R121, 43_commands.md R141, R144: FINALIZE in TMAC mode. -/
def Obligations.FinalizeWritesTheTmacTag : Prop :=
  ∀ s : State, s.keySet = true → s.mode = .tmac → s.lastLen ≤ 16 →
    ∃ t, exec .finalize s = .next t ∧
      (∀ i : Fin 32, t.tag[i] =
        if h : i.val < 8 then (cmacTagOf (keyBlock s) (finalLen s) s.cache (pkcsFinal s))[i.val] else 0x00#8) ∧
      t = { s with
        tag := t.tag, tagLen := 8, cache := zeros 16, last := zeros 16, lastLen := 0, lastValid := false,
        matched := false, err := .ok, busy := false, cmd := 0#32, cyclesLeft := 0 }

/-- 30_encoding.md R84: the blocks COMPUTE and VERIFYMAC feed, in a CMAC mode and in HMAC mode. -/
def Obligations.MessageBlocksFollowTheRule : Prop :=
  (∀ (m : Mode) (d : List Byte), IsCmac m →
    IsSplit d (messageBlocks m d) ∧ (messageBlocks m d).length = max 1 ((d.length + 15) / 16)) ∧
  ∀ d : List Byte,
    (messageBlocks .hmac d).flatten = d ∧ (messageBlocks .hmac d).length = (d.length + 63) / 64 ∧
      (∀ b ∈ (messageBlocks .hmac d).dropLast, b.length = 64) ∧
      ∀ b ∈ messageBlocks .hmac d, b ≠ [] ∧ b.length ≤ 64

/-- 41_cmac_core.md R122, at the level of commands: the tag of a whole message of any length, split as
30_encoding.md R84 splits it, is `cmac_out(cmac_msg(d))`. -/
def Obligations.CmacOfAWholeMessage : Prop :=
  ∀ (m : Mode) (s : State) (d : List Byte) (bs : List (List Byte)), IsCmac m → s.keySet = true → s.keyLen = 16 →
    IsSplit d bs →
    ∃ t u v, exec (setCmac m) s = .next t ∧ feed bs t = .next u ∧ exec .finalize u = .next v ∧
      v.tagLen = (if m = .tmac then 8 else 16) ∧
      ∀ i : Fin 16, v.tag[i.val] = if i.val < v.tagLen then (cmacMsg (keyBlock s) m (zeros 16) bs)[i] else 0x00#8

/-- 41_cmac_core.md R123: a message split at any block boundary gives the tag of the whole message. The first part is fed
in full blocks; an empty second part adds no block where the first has one. -/
def Obligations.StreamingGivesTheSameTag : Prop :=
  ∀ (m : Mode) (s : State) (m1 m2 : List Byte) (full tail whole : List (List Byte)), IsCmac m → s.keySet = true →
    s.keyLen = 16 → full.flatten = m1 → (∀ b ∈ full, b.length = 16) → IsSplit m2 tail → IsSplit (m1 ++ m2) whole →
    ∃ t u u' v w w', exec (setCmac m) s = .next t ∧
      feed full t = .next u ∧
      (if m2 = [] ∧ full ≠ [] then u' = u else feed tail u = .next u') ∧ exec .finalize u' = .next v ∧
      feed whole t = .next w ∧ exec .finalize w = .next w' ∧
      v.tag = w'.tag ∧ v.tagLen = w'.tagLen

/-- 41_cmac_core.md R124: for a message of 16k bytes, k ≥ 1, the TMAC tag is the first half of the OMAC tag. -/
def Obligations.TmacIsTheFirstHalfOfOmac : Prop :=
  ∀ (s : State) (d : List Byte) (bs : List (List Byte)), s.keySet = true → s.keyLen = 16 → d ≠ [] →
    d.length % 16 = 0 → IsSplit d bs →
    ∃ t u v t' u' v', exec .setModeOmac s = .next t ∧ feed bs t = .next u ∧
      exec .finalize u = .next v ∧ exec .setModeTmac s = .next t' ∧ feed bs t' = .next u' ∧
      exec .finalize u' = .next v' ∧ v'.tagLen = 8 ∧ ∀ i : Fin 8, v'.tag[i.val] = v.tag[i.val]

/-- 30_encoding.md R84 in a CMAC mode, through the window: with a fresh core the host's COMPUTE of a message of any length
ends with the host having read the words of `cmac_out(cmac_msg(d))`, no error and no write lost. -/
def Obligations.ComputeReadsTheCmacTag : Prop :=
  ∀ (m : Mode) (s : State) (d : List Byte) (rest : List HostAction), IsCmac m → s.mode = m → s.keySet = true →
    s.lastValid = false → s.cache = zeros 16 → s.busy = false →
    (∃ actions, compute m d = some actions ∧ s.host = actions ++ rest) →
    ∃ (bs : List (List Byte)) (n : Nat) (t : State) (words : List Word),
      IsSplit d bs ∧ run n s = .next t ∧ t.host = rest ∧ t.busy = false ∧ t.err = .ok ∧ t.ovr = s.ovr ∧
      t.reads = s.reads ++ words ∧ words.length = (if m = .tmac then 2 else 4) ∧
      ∀ j k : Nat, j < words.length → k < 4 →
        (words.getD j 0#32).extractLsb' (8 * k) 8 =
          (cmacMsg (keyBlock s) m (zeros 16) bs).toList.getD (4 * j + k) 0x00#8

/-! ### The HMAC core -/

/-- 42_hmac_core.md R133, 43_commands.md R140: ADD_BLOCK in HMAC mode feeds INNER only. The contexts are the hash port's
(notes/assumptions/6.md). -/
def Obligations.AddBlockFeedsTheInnerHash : Prop :=
  ∀ (len : Nat) (s : State) (c : HCtx), s.keySet = true → s.mode = .hmac → len ≤ 64 → s.inner = some c →
    ∃ d : List Byte, d.length = len ∧ (∀ (i : Nat) (h : i < 64), i < len → d[i]? = some s.din[i]) ∧
      exec (.addBlock len) s = .next { s with
        inner := some (hUpdate c d), matched := false, err := .ok, busy := false, cmd := 0#32,
        cyclesLeft := 0 }

/-- 42_hmac_core.md R134 and R135, 43_commands.md R141, R144: FINALIZE in HMAC mode. The contexts are the hash port's
(notes/assumptions/6.md). -/
def Obligations.FinalizeWritesTheHmacTag : Prop :=
  ∀ (s : State) (ci co : HCtx), s.keySet = true → s.mode = .hmac → s.inner = some ci → s.outer = some co →
    exec .finalize s = .next { s with
      tag := hDigest (hUpdate co (hDigest ci).toList), tagLen := 32,
      inner := some (hUpdate hInit (seedBlock 0x36#8 s)), outer := some (hUpdate hInit (seedBlock 0x5c#8 s)),
      matched := false, err := .ok, busy := false, cmd := 0#32, cyclesLeft := 0 }

/-- 42_hmac_core.md R134, with R133: the tag of a message fed in any chunks of at most 64 bytes is
`Hash((K0 xor opad) ‖ Hash((K0 xor ipad) ‖ message))`. It rests on the incremental law of 00_scope.md R13, which the hash
port has (notes/assumptions/6.md). -/
def Obligations.HmacOfAWholeMessage : Prop :=
  ∀ (s : State) (ds : List (List Byte)), s.keySet = true → (∀ d ∈ ds, d.length ≤ 64) →
    ∃ t u v, exec .setModeHmac s = .next t ∧ feed ds t = .next u ∧ exec .finalize u = .next v ∧ v.tagLen = 32 ∧
      v.tag = hashOf (seedBlock 0x5c#8 s ++ (hashOf (seedBlock 0x36#8 s ++ ds.flatten)).toList)

/-! ### VERIFY, FINALIZE and what they leave -/

/-- 43_commands.md R142 and R145: VERIFY compares every byte of the tag FINALIZE would write, and leaves what FINALIZE
leaves but for TAG and TAGLEN. -/
def Obligations.VerifyComparesTheTagOfFinalize : Prop :=
  ∀ s : State, s.keySet = true → s.mode ≠ .none →
    ∃ t u, exec .verify s = .next t ∧ exec .finalize s = .next u ∧
      (t.matched = true ↔ ∀ i : Fin 32, i.val < u.tagLen → u.tag[i] = s.exp[i]) ∧
      t = { u with tag := s.tag, tagLen := s.tagLen, matched := t.matched }

/-- 43_commands.md R142: VERIFY shows the host nothing of the tag beyond MATCH. -/
def Obligations.VerifyShowsOnlyMatch : Prop :=
  ∀ (a b : State), SameInView a b →
    ∃ ta tb, exec .verify a = .next ta ∧ exec .verify b = .next tb ∧ (ta.matched = tb.matched → SameInView ta tb)

/-- 43_commands.md R141: after a FINALIZE, and after SET_MODE, FINALIZE authenticates the empty message: in a CMAC mode its
tag is that of one empty block, in HMAC mode that of the empty message under the hash port (notes/assumptions/6.md). -/
def Obligations.SecondFinalizeTagsTheEmptyMessage : Prop :=
  ∀ s : State, Inv s → s.mode ≠ .none →
    ∃ i t u v w, setModeInstr s.mode = some i ∧ exec .finalize s = .next t ∧ exec .finalize t = .next u ∧
      exec i s = .next v ∧ exec .finalize v = .next w ∧ u.tag = w.tag ∧ u.tagLen = w.tagLen ∧ u.mode = s.mode ∧
      u.key = s.key ∧
      (IsCmac s.mode → u.tagLen = (if s.mode = .tmac then 8 else 16) ∧
        ∀ i : Fin 16, u.tag[i.val] =
          if i.val < u.tagLen then (cmacMsg (keyBlock s) s.mode (zeros 16) [[]])[i] else 0x00#8) ∧
      (s.mode = .hmac → u.tagLen = 32 ∧
        u.tag = hashOf (seedBlock 0x5c#8 s ++ (hashOf (seedBlock 0x36#8 s)).toList))

/-- 43_commands.md R145: the comparison is equality. -/
def Obligations.ConstantTimeComparisonIsEquality : Prop :=
  ∀ a b : List Byte, a.length = b.length → (ctEqual a b = true ↔ a = b)

/-! ### Rules over the whole machine -/

/-- 10_state.md R22: only SET_KEY (and reset) writes the key registers. -/
def Obligations.OnlySetKeyWritesTheKey : Prop :=
  ∀ s t : State, step s = .next t →
    (t.key ≠ s.key ∨ t.keyLen ≠ s.keyLen ∨ t.keySet ≠ s.keySet) →
    (∃ rest, s.host = .reset :: rest) ∨ (Completing s ∧ ∃ len, decode s.cmd = .ok (.setKey len))

/-- 10_state.md R33: only FINALIZE (and reset) writes TAG and TAGLEN. -/
def Obligations.OnlyFinalizeWritesTheTag : Prop :=
  ∀ s t : State, step s = .next t → (t.tag ≠ s.tag ∨ t.tagLen ≠ s.tagLen) →
    (∃ rest, s.host = .reset :: rest) ∨ (Completing s ∧ decode s.cmd = .ok .finalize)

/-- 10_state.md R23: only SET_KEY and SET_MODE (and reset) write MODE. -/
def Obligations.OnlySetupCommandsWriteMode : Prop :=
  ∀ s t : State, step s = .next t → t.mode ≠ s.mode →
    (∃ rest, s.host = .reset :: rest) ∨
      (Completing s ∧ ((∃ len, decode s.cmd = .ok (.setKey len)) ∨ ∃ m i, setModeInstr m = some i ∧ t.mode = m ∧
        decode s.cmd = .ok i))

/-- 10_state.md R30 to R32: no command writes KEY_IN, DIN or EXP. -/
def Obligations.NoCommandWritesTheBuffers : Prop :=
  ∀ (i : Instr) (s t : State), exec i s = .next t → t.keyIn = s.keyIn ∧ t.din = s.din ∧ t.exp = s.exp

/-- 60_exceptions.md R163: a step writes ERR only at the completion of a command, or by reset. -/
def Obligations.OnlyCompletionWritesErr : Prop :=
  ∀ s t : State, step s = .next t → t.err ≠ s.err → (∃ rest, s.host = .reset :: rest) ∨ Completing s

/-- 70_reset_and_hazards.md R195, under the model's choice of what the latency may depend on (notes/assumptions/16.md):
the latency shows nothing the host cannot see. -/
def Obligations.LatencyShowsNoSecret : Prop :=
  ∀ (a b : State) (w : Word), SameInView a b → latency w a = latency w b ∧ 1 ≤ latency w a

/-! ### Reset -/

/-- 70_reset_and_hazards.md R180 and R182: a reset, during a command too, leaves every piece of state at its reset value;
that what the host still does and what it has read stay is the model's choice (notes/assumptions/15.md). -/
def Obligations.ResetInputGivesTheResetState : Prop :=
  ∀ (s : State) (rest : List HostAction), s.host = .reset :: rest →
    ∃ t, step s = .next t ∧ t = { State.reset with host := rest, reads := s.reads } ∧
      t.keyIn = zeros 64 ∧ t.key = zeros 64 ∧ t.keyLen = 0 ∧ t.keySet = false ∧ t.mode = .none ∧
      t.cache = zeros 16 ∧ t.last = zeros 16 ∧ t.lastLen = 0 ∧ t.lastValid = false ∧
      t.inner = Option.none ∧ t.outer = Option.none ∧ t.din = zeros 64 ∧ t.exp = zeros 32 ∧
      t.tag = zeros 32 ∧ t.tagLen = 0 ∧ t.busy = false ∧ t.matched = false ∧ t.ovr = false ∧ t.err = .ok ∧
      windowRead 0x04#8 t = 0x00000000#32 ∧ windowRead 0x08#8 t = 0x00000000#32

/-- 70_reset_and_hazards.md R181: after reset every command but SET_KEY fails with KEY_NOT_SET. -/
def Obligations.AfterResetOnlySetKeyRuns : Prop :=
  ∀ (i : Instr) (h : List HostAction) (r : List Word), (∀ len, i ≠ .setKey len) →
    exec i { State.reset with host := h, reads := r } =
      .next { State.reset with host := h, reads := r, err := .keyNotSet }

/-! ### Invariants -/

/-- The reset state meets the invariants, whatever the host is about to do. -/
def Obligations.ResetMeetsTheInvariants : Prop :=
  ∀ (h : List HostAction) (r : List Word),
    Inv { State.reset with host := h, reads := r } ∧ Seeded { State.reset with host := h, reads := r }

/-- 10_state.md R37: every step keeps the invariant. -/
def Obligations.StepKeepsInv : Prop :=
  ∀ s t : State, Inv s → step s = .next t → Inv t

/-- 42_hmac_core.md R131, R133, R135: in HMAC mode OUTER stays the seed of the latched key, and INNER its seed fed with
some message, over every step. The contexts are the hash port's (notes/assumptions/6.md). -/
def Obligations.StepKeepsSeeded : Prop :=
  ∀ s t : State, Seeded s → step s = .next t → Seeded t

/-- 10_state.md R37: the clauses of the rule hold in every state a run from reset reaches, whatever the host does. -/
def Obligations.ReachableStatesMeetTheRule : Prop :=
  ∀ (n : Nat) (h : List HostAction) (t : State),
    run n { State.reset with host := h } = .next t →
    (t.keySet = false → t.mode = .none) ∧
    (IsCmac t.mode → t.keyLen = 16 ∧ t.inner = Option.none ∧ t.outer = Option.none) ∧
    (t.mode = .hmac → t.cache = zeros 16 ∧ t.lastValid = false ∧ t.inner ≠ Option.none ∧ t.outer ≠ Option.none) ∧
    (t.mode = .none → t.cache = zeros 16 ∧ t.lastValid = false ∧ t.inner = Option.none ∧ t.outer = Option.none) ∧
    (t.lastValid = false → t.lastLen = 0 ∧ t.last = zeros 16) ∧
    (t.cyclesLeft = 0 → t.busy = false)
end

