-- ==== Sys2Proof/Laws/Bytes.lean ====
section
/-! SUPPORT. What the byte-sequence operators leave at each index. -/

namespace Sys2Proof.Machine

@[simp] theorem bytesOf_getElem (n : Nat) (B : List Byte) (i : Nat) (h : i < n) :
    (bytesOf n B)[i] = B.getD i 0x00#8 := by
  simp [bytesOf]

@[simp] theorem xorBytes_getElem {n : Nat} (A B : Bytes n) (i : Nat) (h : i < n) :
    (xorBytes A B)[i] = A[i] ^^^ B[i] := by
  simp [xorBytes]

@[simp] theorem repeatByte_getElem (n : Nat) (c : Byte) (i : Nat) (h : i < n) : (repeatByte n c)[i] = c := by
  simp [repeatByte]

@[simp] theorem putWord_getElem {n : Nat} (B : Bytes n) (w : Nat) (v : Word) (i : Nat) (h : i < n) :
    (putWord B w v)[i] = if i / 4 = w then laneByte v (i % 4) else B[i] := by
  simp [putWord]

@[simp] theorem blk_getElem (v : BitVec 128) (i : Nat) (h : i < 16) :
    (blk v)[i] = v.extractLsb' (8 * (15 - i)) 8 := by
  simp [blk]

@[simp] theorem firstBytes_length {n : Nat} (A : Bytes n) (j : Nat) : (firstBytes A j).length = min j n := by
  simp [firstBytes]

theorem firstBytes_getD {n : Nat} (A : Bytes n) (j i : Nat) (h : i < n) :
    (firstBytes A j).getD i 0x00#8 = if i < j then A[i] else 0x00#8 := by
  by_cases hj : i < j <;> simp [firstBytes, hj, h]

/-- Cutting a sequence at its own length and padding it again changes nothing. -/
theorem bytesOf_toList {n : Nat} (A : Bytes n) : bytesOf n A.toList = A := by
  ext i h
  simp [bytesOf]

end Sys2Proof.Machine
end

