-- ==== Sys2Proof/Laws/Hash.lean ====
section
/-! SUPPORT. The incremental law of the hash port (00_scope.md R13). -/

namespace Sys2Proof.Machine

@[simp] theorem hUpdate_nil (c : HCtx) : hUpdate c [] = c := rfl

/-- Updating with two byte strings one after the other is updating with both joined. -/
theorem hUpdate_append (c : HCtx) (a b : List Byte) : hUpdate c (a ++ b) = hUpdate (hUpdate c a) b := by
  simp [hUpdate]

end Sys2Proof.Machine
end

