-- ==== Sys2Proof/Laws/State.lean ====
section
/-! SUPPORT. What each named update of the state leaves in each field: one lemma per field and update. -/

namespace Sys2Proof.Machine

@[simp] theorem State.complete_keyIn (e : ErrCode) (s : State) : (State.complete e s).keyIn = s.keyIn := rfl
@[simp] theorem State.complete_key (e : ErrCode) (s : State) : (State.complete e s).key = s.key := rfl
@[simp] theorem State.complete_keyLen (e : ErrCode) (s : State) : (State.complete e s).keyLen = s.keyLen := rfl
@[simp] theorem State.complete_keySet (e : ErrCode) (s : State) : (State.complete e s).keySet = s.keySet := rfl
@[simp] theorem State.complete_mode (e : ErrCode) (s : State) : (State.complete e s).mode = s.mode := rfl
@[simp] theorem State.complete_cache (e : ErrCode) (s : State) : (State.complete e s).cache = s.cache := rfl
@[simp] theorem State.complete_last (e : ErrCode) (s : State) : (State.complete e s).last = s.last := rfl
@[simp] theorem State.complete_lastLen (e : ErrCode) (s : State) : (State.complete e s).lastLen = s.lastLen := rfl
@[simp] theorem State.complete_lastValid (e : ErrCode) (s : State) : (State.complete e s).lastValid = s.lastValid := rfl
@[simp] theorem State.complete_inner (e : ErrCode) (s : State) : (State.complete e s).inner = s.inner := rfl
@[simp] theorem State.complete_outer (e : ErrCode) (s : State) : (State.complete e s).outer = s.outer := rfl
@[simp] theorem State.complete_din (e : ErrCode) (s : State) : (State.complete e s).din = s.din := rfl
@[simp] theorem State.complete_exp (e : ErrCode) (s : State) : (State.complete e s).exp = s.exp := rfl
@[simp] theorem State.complete_tag (e : ErrCode) (s : State) : (State.complete e s).tag = s.tag := rfl
@[simp] theorem State.complete_tagLen (e : ErrCode) (s : State) : (State.complete e s).tagLen = s.tagLen := rfl
@[simp] theorem State.complete_busy (e : ErrCode) (s : State) : (State.complete e s).busy = false := rfl
@[simp] theorem State.complete_matched (e : ErrCode) (s : State) : (State.complete e s).matched = s.matched := rfl
@[simp] theorem State.complete_ovr (e : ErrCode) (s : State) : (State.complete e s).ovr = s.ovr := rfl
@[simp] theorem State.complete_err (e : ErrCode) (s : State) : (State.complete e s).err = e := rfl
@[simp] theorem State.complete_cmd (e : ErrCode) (s : State) : (State.complete e s).cmd = 0#32 := rfl
@[simp] theorem State.complete_cyclesLeft (e : ErrCode) (s : State) : (State.complete e s).cyclesLeft = 0 := rfl
@[simp] theorem State.complete_host (e : ErrCode) (s : State) : (State.complete e s).host = s.host := rfl
@[simp] theorem State.complete_reads (e : ErrCode) (s : State) : (State.complete e s).reads = s.reads := rfl

@[simp] theorem State.succeed_keyIn (m : Bool) (s : State) : (State.succeed m s).keyIn = s.keyIn := rfl
@[simp] theorem State.succeed_key (m : Bool) (s : State) : (State.succeed m s).key = s.key := rfl
@[simp] theorem State.succeed_keyLen (m : Bool) (s : State) : (State.succeed m s).keyLen = s.keyLen := rfl
@[simp] theorem State.succeed_keySet (m : Bool) (s : State) : (State.succeed m s).keySet = s.keySet := rfl
@[simp] theorem State.succeed_mode (m : Bool) (s : State) : (State.succeed m s).mode = s.mode := rfl
@[simp] theorem State.succeed_cache (m : Bool) (s : State) : (State.succeed m s).cache = s.cache := rfl
@[simp] theorem State.succeed_last (m : Bool) (s : State) : (State.succeed m s).last = s.last := rfl
@[simp] theorem State.succeed_lastLen (m : Bool) (s : State) : (State.succeed m s).lastLen = s.lastLen := rfl
@[simp] theorem State.succeed_lastValid (m : Bool) (s : State) : (State.succeed m s).lastValid = s.lastValid := rfl
@[simp] theorem State.succeed_inner (m : Bool) (s : State) : (State.succeed m s).inner = s.inner := rfl
@[simp] theorem State.succeed_outer (m : Bool) (s : State) : (State.succeed m s).outer = s.outer := rfl
@[simp] theorem State.succeed_din (m : Bool) (s : State) : (State.succeed m s).din = s.din := rfl
@[simp] theorem State.succeed_exp (m : Bool) (s : State) : (State.succeed m s).exp = s.exp := rfl
@[simp] theorem State.succeed_tag (m : Bool) (s : State) : (State.succeed m s).tag = s.tag := rfl
@[simp] theorem State.succeed_tagLen (m : Bool) (s : State) : (State.succeed m s).tagLen = s.tagLen := rfl
@[simp] theorem State.succeed_busy (m : Bool) (s : State) : (State.succeed m s).busy = false := rfl
@[simp] theorem State.succeed_matched (m : Bool) (s : State) : (State.succeed m s).matched = m := rfl
@[simp] theorem State.succeed_ovr (m : Bool) (s : State) : (State.succeed m s).ovr = s.ovr := rfl
@[simp] theorem State.succeed_err (m : Bool) (s : State) : (State.succeed m s).err = .ok := rfl
@[simp] theorem State.succeed_cmd (m : Bool) (s : State) : (State.succeed m s).cmd = 0#32 := rfl
@[simp] theorem State.succeed_cyclesLeft (m : Bool) (s : State) : (State.succeed m s).cyclesLeft = 0 := rfl
@[simp] theorem State.succeed_host (m : Bool) (s : State) : (State.succeed m s).host = s.host := rfl
@[simp] theorem State.succeed_reads (m : Bool) (s : State) : (State.succeed m s).reads = s.reads := rfl

@[simp] theorem State.latchKey_keyIn (len : Nat) (s : State) : (State.latchKey len s).keyIn = s.keyIn := by simp only [State.latchKey]
@[simp] theorem State.latchKey_key (len : Nat) (s : State) : (State.latchKey len s).key = bytesOf 64 (firstBytes s.keyIn len) := by simp only [State.latchKey]
@[simp] theorem State.latchKey_keyLen (len : Nat) (s : State) : (State.latchKey len s).keyLen = len := by simp only [State.latchKey]
@[simp] theorem State.latchKey_keySet (len : Nat) (s : State) : (State.latchKey len s).keySet = true := by simp only [State.latchKey]
@[simp] theorem State.latchKey_mode (len : Nat) (s : State) : (State.latchKey len s).mode = s.mode := by simp only [State.latchKey]
@[simp] theorem State.latchKey_cache (len : Nat) (s : State) : (State.latchKey len s).cache = s.cache := by simp only [State.latchKey]
@[simp] theorem State.latchKey_last (len : Nat) (s : State) : (State.latchKey len s).last = s.last := by simp only [State.latchKey]
@[simp] theorem State.latchKey_lastLen (len : Nat) (s : State) : (State.latchKey len s).lastLen = s.lastLen := by simp only [State.latchKey]
@[simp] theorem State.latchKey_lastValid (len : Nat) (s : State) : (State.latchKey len s).lastValid = s.lastValid := by simp only [State.latchKey]
@[simp] theorem State.latchKey_inner (len : Nat) (s : State) : (State.latchKey len s).inner = s.inner := by simp only [State.latchKey]
@[simp] theorem State.latchKey_outer (len : Nat) (s : State) : (State.latchKey len s).outer = s.outer := by simp only [State.latchKey]
@[simp] theorem State.latchKey_din (len : Nat) (s : State) : (State.latchKey len s).din = s.din := by simp only [State.latchKey]
@[simp] theorem State.latchKey_exp (len : Nat) (s : State) : (State.latchKey len s).exp = s.exp := by simp only [State.latchKey]
@[simp] theorem State.latchKey_tag (len : Nat) (s : State) : (State.latchKey len s).tag = s.tag := by simp only [State.latchKey]
@[simp] theorem State.latchKey_tagLen (len : Nat) (s : State) : (State.latchKey len s).tagLen = s.tagLen := by simp only [State.latchKey]
@[simp] theorem State.latchKey_busy (len : Nat) (s : State) : (State.latchKey len s).busy = s.busy := by simp only [State.latchKey]
@[simp] theorem State.latchKey_matched (len : Nat) (s : State) : (State.latchKey len s).matched = s.matched := by simp only [State.latchKey]
@[simp] theorem State.latchKey_ovr (len : Nat) (s : State) : (State.latchKey len s).ovr = s.ovr := by simp only [State.latchKey]
@[simp] theorem State.latchKey_err (len : Nat) (s : State) : (State.latchKey len s).err = s.err := by simp only [State.latchKey]
@[simp] theorem State.latchKey_cmd (len : Nat) (s : State) : (State.latchKey len s).cmd = s.cmd := by simp only [State.latchKey]
@[simp] theorem State.latchKey_cyclesLeft (len : Nat) (s : State) : (State.latchKey len s).cyclesLeft = s.cyclesLeft := by simp only [State.latchKey]
@[simp] theorem State.latchKey_host (len : Nat) (s : State) : (State.latchKey len s).host = s.host := by simp only [State.latchKey]
@[simp] theorem State.latchKey_reads (len : Nat) (s : State) : (State.latchKey len s).reads = s.reads := by simp only [State.latchKey]

@[simp] theorem State.selectMode_keyIn (m : Mode) (s : State) : (State.selectMode m s).keyIn = s.keyIn := rfl
@[simp] theorem State.selectMode_key (m : Mode) (s : State) : (State.selectMode m s).key = s.key := rfl
@[simp] theorem State.selectMode_keyLen (m : Mode) (s : State) : (State.selectMode m s).keyLen = s.keyLen := rfl
@[simp] theorem State.selectMode_keySet (m : Mode) (s : State) : (State.selectMode m s).keySet = s.keySet := rfl
@[simp] theorem State.selectMode_mode (m : Mode) (s : State) : (State.selectMode m s).mode = m := rfl
@[simp] theorem State.selectMode_cache (m : Mode) (s : State) : (State.selectMode m s).cache = s.cache := rfl
@[simp] theorem State.selectMode_last (m : Mode) (s : State) : (State.selectMode m s).last = s.last := rfl
@[simp] theorem State.selectMode_lastLen (m : Mode) (s : State) : (State.selectMode m s).lastLen = s.lastLen := rfl
@[simp] theorem State.selectMode_lastValid (m : Mode) (s : State) : (State.selectMode m s).lastValid = s.lastValid := rfl
@[simp] theorem State.selectMode_inner (m : Mode) (s : State) : (State.selectMode m s).inner = s.inner := rfl
@[simp] theorem State.selectMode_outer (m : Mode) (s : State) : (State.selectMode m s).outer = s.outer := rfl
@[simp] theorem State.selectMode_din (m : Mode) (s : State) : (State.selectMode m s).din = s.din := rfl
@[simp] theorem State.selectMode_exp (m : Mode) (s : State) : (State.selectMode m s).exp = s.exp := rfl
@[simp] theorem State.selectMode_tag (m : Mode) (s : State) : (State.selectMode m s).tag = s.tag := rfl
@[simp] theorem State.selectMode_tagLen (m : Mode) (s : State) : (State.selectMode m s).tagLen = s.tagLen := rfl
@[simp] theorem State.selectMode_busy (m : Mode) (s : State) : (State.selectMode m s).busy = s.busy := rfl
@[simp] theorem State.selectMode_matched (m : Mode) (s : State) : (State.selectMode m s).matched = s.matched := rfl
@[simp] theorem State.selectMode_ovr (m : Mode) (s : State) : (State.selectMode m s).ovr = s.ovr := rfl
@[simp] theorem State.selectMode_err (m : Mode) (s : State) : (State.selectMode m s).err = s.err := rfl
@[simp] theorem State.selectMode_cmd (m : Mode) (s : State) : (State.selectMode m s).cmd = s.cmd := rfl
@[simp] theorem State.selectMode_cyclesLeft (m : Mode) (s : State) : (State.selectMode m s).cyclesLeft = s.cyclesLeft := rfl
@[simp] theorem State.selectMode_host (m : Mode) (s : State) : (State.selectMode m s).host = s.host := rfl
@[simp] theorem State.selectMode_reads (m : Mode) (s : State) : (State.selectMode m s).reads = s.reads := rfl

@[simp] theorem State.clearCmac_keyIn (s : State) : (State.clearCmac s).keyIn = s.keyIn := rfl
@[simp] theorem State.clearCmac_key (s : State) : (State.clearCmac s).key = s.key := rfl
@[simp] theorem State.clearCmac_keyLen (s : State) : (State.clearCmac s).keyLen = s.keyLen := rfl
@[simp] theorem State.clearCmac_keySet (s : State) : (State.clearCmac s).keySet = s.keySet := rfl
@[simp] theorem State.clearCmac_mode (s : State) : (State.clearCmac s).mode = s.mode := rfl
@[simp] theorem State.clearCmac_cache (s : State) : (State.clearCmac s).cache = repeatByte 16 0x00#8 := rfl
@[simp] theorem State.clearCmac_last (s : State) : (State.clearCmac s).last = repeatByte 16 0x00#8 := rfl
@[simp] theorem State.clearCmac_lastLen (s : State) : (State.clearCmac s).lastLen = 0 := rfl
@[simp] theorem State.clearCmac_lastValid (s : State) : (State.clearCmac s).lastValid = false := rfl
@[simp] theorem State.clearCmac_inner (s : State) : (State.clearCmac s).inner = s.inner := rfl
@[simp] theorem State.clearCmac_outer (s : State) : (State.clearCmac s).outer = s.outer := rfl
@[simp] theorem State.clearCmac_din (s : State) : (State.clearCmac s).din = s.din := rfl
@[simp] theorem State.clearCmac_exp (s : State) : (State.clearCmac s).exp = s.exp := rfl
@[simp] theorem State.clearCmac_tag (s : State) : (State.clearCmac s).tag = s.tag := rfl
@[simp] theorem State.clearCmac_tagLen (s : State) : (State.clearCmac s).tagLen = s.tagLen := rfl
@[simp] theorem State.clearCmac_busy (s : State) : (State.clearCmac s).busy = s.busy := rfl
@[simp] theorem State.clearCmac_matched (s : State) : (State.clearCmac s).matched = s.matched := rfl
@[simp] theorem State.clearCmac_ovr (s : State) : (State.clearCmac s).ovr = s.ovr := rfl
@[simp] theorem State.clearCmac_err (s : State) : (State.clearCmac s).err = s.err := rfl
@[simp] theorem State.clearCmac_cmd (s : State) : (State.clearCmac s).cmd = s.cmd := rfl
@[simp] theorem State.clearCmac_cyclesLeft (s : State) : (State.clearCmac s).cyclesLeft = s.cyclesLeft := rfl
@[simp] theorem State.clearCmac_host (s : State) : (State.clearCmac s).host = s.host := rfl
@[simp] theorem State.clearCmac_reads (s : State) : (State.clearCmac s).reads = s.reads := rfl

@[simp] theorem State.setContexts_keyIn (i o : Option HCtx) (s : State) : (State.setContexts i o s).keyIn = s.keyIn := rfl
@[simp] theorem State.setContexts_key (i o : Option HCtx) (s : State) : (State.setContexts i o s).key = s.key := rfl
@[simp] theorem State.setContexts_keyLen (i o : Option HCtx) (s : State) : (State.setContexts i o s).keyLen = s.keyLen := rfl
@[simp] theorem State.setContexts_keySet (i o : Option HCtx) (s : State) : (State.setContexts i o s).keySet = s.keySet := rfl
@[simp] theorem State.setContexts_mode (i o : Option HCtx) (s : State) : (State.setContexts i o s).mode = s.mode := rfl
@[simp] theorem State.setContexts_cache (i o : Option HCtx) (s : State) : (State.setContexts i o s).cache = s.cache := rfl
@[simp] theorem State.setContexts_last (i o : Option HCtx) (s : State) : (State.setContexts i o s).last = s.last := rfl
@[simp] theorem State.setContexts_lastLen (i o : Option HCtx) (s : State) : (State.setContexts i o s).lastLen = s.lastLen := rfl
@[simp] theorem State.setContexts_lastValid (i o : Option HCtx) (s : State) : (State.setContexts i o s).lastValid = s.lastValid := rfl
@[simp] theorem State.setContexts_inner (i o : Option HCtx) (s : State) : (State.setContexts i o s).inner = i := rfl
@[simp] theorem State.setContexts_outer (i o : Option HCtx) (s : State) : (State.setContexts i o s).outer = o := rfl
@[simp] theorem State.setContexts_din (i o : Option HCtx) (s : State) : (State.setContexts i o s).din = s.din := rfl
@[simp] theorem State.setContexts_exp (i o : Option HCtx) (s : State) : (State.setContexts i o s).exp = s.exp := rfl
@[simp] theorem State.setContexts_tag (i o : Option HCtx) (s : State) : (State.setContexts i o s).tag = s.tag := rfl
@[simp] theorem State.setContexts_tagLen (i o : Option HCtx) (s : State) : (State.setContexts i o s).tagLen = s.tagLen := rfl
@[simp] theorem State.setContexts_busy (i o : Option HCtx) (s : State) : (State.setContexts i o s).busy = s.busy := rfl
@[simp] theorem State.setContexts_matched (i o : Option HCtx) (s : State) : (State.setContexts i o s).matched = s.matched := rfl
@[simp] theorem State.setContexts_ovr (i o : Option HCtx) (s : State) : (State.setContexts i o s).ovr = s.ovr := rfl
@[simp] theorem State.setContexts_err (i o : Option HCtx) (s : State) : (State.setContexts i o s).err = s.err := rfl
@[simp] theorem State.setContexts_cmd (i o : Option HCtx) (s : State) : (State.setContexts i o s).cmd = s.cmd := rfl
@[simp] theorem State.setContexts_cyclesLeft (i o : Option HCtx) (s : State) : (State.setContexts i o s).cyclesLeft = s.cyclesLeft := rfl
@[simp] theorem State.setContexts_host (i o : Option HCtx) (s : State) : (State.setContexts i o s).host = s.host := rfl
@[simp] theorem State.setContexts_reads (i o : Option HCtx) (s : State) : (State.setContexts i o s).reads = s.reads := rfl

@[simp] theorem State.setCache_keyIn (c : Block) (s : State) : (State.setCache c s).keyIn = s.keyIn := rfl
@[simp] theorem State.setCache_key (c : Block) (s : State) : (State.setCache c s).key = s.key := rfl
@[simp] theorem State.setCache_keyLen (c : Block) (s : State) : (State.setCache c s).keyLen = s.keyLen := rfl
@[simp] theorem State.setCache_keySet (c : Block) (s : State) : (State.setCache c s).keySet = s.keySet := rfl
@[simp] theorem State.setCache_mode (c : Block) (s : State) : (State.setCache c s).mode = s.mode := rfl
@[simp] theorem State.setCache_cache (c : Block) (s : State) : (State.setCache c s).cache = c := rfl
@[simp] theorem State.setCache_last (c : Block) (s : State) : (State.setCache c s).last = s.last := rfl
@[simp] theorem State.setCache_lastLen (c : Block) (s : State) : (State.setCache c s).lastLen = s.lastLen := rfl
@[simp] theorem State.setCache_lastValid (c : Block) (s : State) : (State.setCache c s).lastValid = s.lastValid := rfl
@[simp] theorem State.setCache_inner (c : Block) (s : State) : (State.setCache c s).inner = s.inner := rfl
@[simp] theorem State.setCache_outer (c : Block) (s : State) : (State.setCache c s).outer = s.outer := rfl
@[simp] theorem State.setCache_din (c : Block) (s : State) : (State.setCache c s).din = s.din := rfl
@[simp] theorem State.setCache_exp (c : Block) (s : State) : (State.setCache c s).exp = s.exp := rfl
@[simp] theorem State.setCache_tag (c : Block) (s : State) : (State.setCache c s).tag = s.tag := rfl
@[simp] theorem State.setCache_tagLen (c : Block) (s : State) : (State.setCache c s).tagLen = s.tagLen := rfl
@[simp] theorem State.setCache_busy (c : Block) (s : State) : (State.setCache c s).busy = s.busy := rfl
@[simp] theorem State.setCache_matched (c : Block) (s : State) : (State.setCache c s).matched = s.matched := rfl
@[simp] theorem State.setCache_ovr (c : Block) (s : State) : (State.setCache c s).ovr = s.ovr := rfl
@[simp] theorem State.setCache_err (c : Block) (s : State) : (State.setCache c s).err = s.err := rfl
@[simp] theorem State.setCache_cmd (c : Block) (s : State) : (State.setCache c s).cmd = s.cmd := rfl
@[simp] theorem State.setCache_cyclesLeft (c : Block) (s : State) : (State.setCache c s).cyclesLeft = s.cyclesLeft := rfl
@[simp] theorem State.setCache_host (c : Block) (s : State) : (State.setCache c s).host = s.host := rfl
@[simp] theorem State.setCache_reads (c : Block) (s : State) : (State.setCache c s).reads = s.reads := rfl

@[simp] theorem State.holdBlock_keyIn (b : List Byte) (s : State) : (State.holdBlock b s).keyIn = s.keyIn := by simp only [State.holdBlock]
@[simp] theorem State.holdBlock_key (b : List Byte) (s : State) : (State.holdBlock b s).key = s.key := by simp only [State.holdBlock]
@[simp] theorem State.holdBlock_keyLen (b : List Byte) (s : State) : (State.holdBlock b s).keyLen = s.keyLen := by simp only [State.holdBlock]
@[simp] theorem State.holdBlock_keySet (b : List Byte) (s : State) : (State.holdBlock b s).keySet = s.keySet := by simp only [State.holdBlock]
@[simp] theorem State.holdBlock_mode (b : List Byte) (s : State) : (State.holdBlock b s).mode = s.mode := by simp only [State.holdBlock]
@[simp] theorem State.holdBlock_cache (b : List Byte) (s : State) : (State.holdBlock b s).cache = s.cache := by simp only [State.holdBlock]
@[simp] theorem State.holdBlock_last (b : List Byte) (s : State) : (State.holdBlock b s).last = bytesOf 16 b := by simp only [State.holdBlock]
@[simp] theorem State.holdBlock_lastLen (b : List Byte) (s : State) : (State.holdBlock b s).lastLen = b.length := by simp only [State.holdBlock]
@[simp] theorem State.holdBlock_lastValid (b : List Byte) (s : State) : (State.holdBlock b s).lastValid = true := by simp only [State.holdBlock]
@[simp] theorem State.holdBlock_inner (b : List Byte) (s : State) : (State.holdBlock b s).inner = s.inner := by simp only [State.holdBlock]
@[simp] theorem State.holdBlock_outer (b : List Byte) (s : State) : (State.holdBlock b s).outer = s.outer := by simp only [State.holdBlock]
@[simp] theorem State.holdBlock_din (b : List Byte) (s : State) : (State.holdBlock b s).din = s.din := by simp only [State.holdBlock]
@[simp] theorem State.holdBlock_exp (b : List Byte) (s : State) : (State.holdBlock b s).exp = s.exp := by simp only [State.holdBlock]
@[simp] theorem State.holdBlock_tag (b : List Byte) (s : State) : (State.holdBlock b s).tag = s.tag := by simp only [State.holdBlock]
@[simp] theorem State.holdBlock_tagLen (b : List Byte) (s : State) : (State.holdBlock b s).tagLen = s.tagLen := by simp only [State.holdBlock]
@[simp] theorem State.holdBlock_busy (b : List Byte) (s : State) : (State.holdBlock b s).busy = s.busy := by simp only [State.holdBlock]
@[simp] theorem State.holdBlock_matched (b : List Byte) (s : State) : (State.holdBlock b s).matched = s.matched := by simp only [State.holdBlock]
@[simp] theorem State.holdBlock_ovr (b : List Byte) (s : State) : (State.holdBlock b s).ovr = s.ovr := by simp only [State.holdBlock]
@[simp] theorem State.holdBlock_err (b : List Byte) (s : State) : (State.holdBlock b s).err = s.err := by simp only [State.holdBlock]
@[simp] theorem State.holdBlock_cmd (b : List Byte) (s : State) : (State.holdBlock b s).cmd = s.cmd := by simp only [State.holdBlock]
@[simp] theorem State.holdBlock_cyclesLeft (b : List Byte) (s : State) : (State.holdBlock b s).cyclesLeft = s.cyclesLeft := by simp only [State.holdBlock]
@[simp] theorem State.holdBlock_host (b : List Byte) (s : State) : (State.holdBlock b s).host = s.host := by simp only [State.holdBlock]
@[simp] theorem State.holdBlock_reads (b : List Byte) (s : State) : (State.holdBlock b s).reads = s.reads := by simp only [State.holdBlock]

@[simp] theorem State.writeTag_keyIn (t : List Byte) (s : State) : (State.writeTag t s).keyIn = s.keyIn := by simp only [State.writeTag]
@[simp] theorem State.writeTag_key (t : List Byte) (s : State) : (State.writeTag t s).key = s.key := by simp only [State.writeTag]
@[simp] theorem State.writeTag_keyLen (t : List Byte) (s : State) : (State.writeTag t s).keyLen = s.keyLen := by simp only [State.writeTag]
@[simp] theorem State.writeTag_keySet (t : List Byte) (s : State) : (State.writeTag t s).keySet = s.keySet := by simp only [State.writeTag]
@[simp] theorem State.writeTag_mode (t : List Byte) (s : State) : (State.writeTag t s).mode = s.mode := by simp only [State.writeTag]
@[simp] theorem State.writeTag_cache (t : List Byte) (s : State) : (State.writeTag t s).cache = s.cache := by simp only [State.writeTag]
@[simp] theorem State.writeTag_last (t : List Byte) (s : State) : (State.writeTag t s).last = s.last := by simp only [State.writeTag]
@[simp] theorem State.writeTag_lastLen (t : List Byte) (s : State) : (State.writeTag t s).lastLen = s.lastLen := by simp only [State.writeTag]
@[simp] theorem State.writeTag_lastValid (t : List Byte) (s : State) : (State.writeTag t s).lastValid = s.lastValid := by simp only [State.writeTag]
@[simp] theorem State.writeTag_inner (t : List Byte) (s : State) : (State.writeTag t s).inner = s.inner := by simp only [State.writeTag]
@[simp] theorem State.writeTag_outer (t : List Byte) (s : State) : (State.writeTag t s).outer = s.outer := by simp only [State.writeTag]
@[simp] theorem State.writeTag_din (t : List Byte) (s : State) : (State.writeTag t s).din = s.din := by simp only [State.writeTag]
@[simp] theorem State.writeTag_exp (t : List Byte) (s : State) : (State.writeTag t s).exp = s.exp := by simp only [State.writeTag]
@[simp] theorem State.writeTag_tag (t : List Byte) (s : State) : (State.writeTag t s).tag = bytesOf 32 t := by simp only [State.writeTag]
@[simp] theorem State.writeTag_tagLen (t : List Byte) (s : State) : (State.writeTag t s).tagLen = t.length := by simp only [State.writeTag]
@[simp] theorem State.writeTag_busy (t : List Byte) (s : State) : (State.writeTag t s).busy = s.busy := by simp only [State.writeTag]
@[simp] theorem State.writeTag_matched (t : List Byte) (s : State) : (State.writeTag t s).matched = s.matched := by simp only [State.writeTag]
@[simp] theorem State.writeTag_ovr (t : List Byte) (s : State) : (State.writeTag t s).ovr = s.ovr := by simp only [State.writeTag]
@[simp] theorem State.writeTag_err (t : List Byte) (s : State) : (State.writeTag t s).err = s.err := by simp only [State.writeTag]
@[simp] theorem State.writeTag_cmd (t : List Byte) (s : State) : (State.writeTag t s).cmd = s.cmd := by simp only [State.writeTag]
@[simp] theorem State.writeTag_cyclesLeft (t : List Byte) (s : State) : (State.writeTag t s).cyclesLeft = s.cyclesLeft := by simp only [State.writeTag]
@[simp] theorem State.writeTag_host (t : List Byte) (s : State) : (State.writeTag t s).host = s.host := by simp only [State.writeTag]
@[simp] theorem State.writeTag_reads (t : List Byte) (s : State) : (State.writeTag t s).reads = s.reads := by simp only [State.writeTag]

@[simp] theorem State.issue_keyIn (w : Word) (s : State) : (State.issue w s).keyIn = s.keyIn := rfl
@[simp] theorem State.issue_key (w : Word) (s : State) : (State.issue w s).key = s.key := rfl
@[simp] theorem State.issue_keyLen (w : Word) (s : State) : (State.issue w s).keyLen = s.keyLen := rfl
@[simp] theorem State.issue_keySet (w : Word) (s : State) : (State.issue w s).keySet = s.keySet := rfl
@[simp] theorem State.issue_mode (w : Word) (s : State) : (State.issue w s).mode = s.mode := rfl
@[simp] theorem State.issue_cache (w : Word) (s : State) : (State.issue w s).cache = s.cache := rfl
@[simp] theorem State.issue_last (w : Word) (s : State) : (State.issue w s).last = s.last := rfl
@[simp] theorem State.issue_lastLen (w : Word) (s : State) : (State.issue w s).lastLen = s.lastLen := rfl
@[simp] theorem State.issue_lastValid (w : Word) (s : State) : (State.issue w s).lastValid = s.lastValid := rfl
@[simp] theorem State.issue_inner (w : Word) (s : State) : (State.issue w s).inner = s.inner := rfl
@[simp] theorem State.issue_outer (w : Word) (s : State) : (State.issue w s).outer = s.outer := rfl
@[simp] theorem State.issue_din (w : Word) (s : State) : (State.issue w s).din = s.din := rfl
@[simp] theorem State.issue_exp (w : Word) (s : State) : (State.issue w s).exp = s.exp := rfl
@[simp] theorem State.issue_tag (w : Word) (s : State) : (State.issue w s).tag = s.tag := rfl
@[simp] theorem State.issue_tagLen (w : Word) (s : State) : (State.issue w s).tagLen = s.tagLen := rfl
@[simp] theorem State.issue_busy (w : Word) (s : State) : (State.issue w s).busy = true := rfl
@[simp] theorem State.issue_matched (w : Word) (s : State) : (State.issue w s).matched = s.matched := rfl
@[simp] theorem State.issue_ovr (w : Word) (s : State) : (State.issue w s).ovr = s.ovr := rfl
@[simp] theorem State.issue_err (w : Word) (s : State) : (State.issue w s).err = s.err := rfl
@[simp] theorem State.issue_cmd (w : Word) (s : State) : (State.issue w s).cmd = w := rfl
@[simp] theorem State.issue_cyclesLeft (w : Word) (s : State) : (State.issue w s).cyclesLeft = latency w s := rfl
@[simp] theorem State.issue_host (w : Word) (s : State) : (State.issue w s).host = s.host := rfl
@[simp] theorem State.issue_reads (w : Word) (s : State) : (State.issue w s).reads = s.reads := rfl

@[simp] theorem State.dropWrite_keyIn (s : State) : (State.dropWrite s).keyIn = s.keyIn := rfl
@[simp] theorem State.dropWrite_key (s : State) : (State.dropWrite s).key = s.key := rfl
@[simp] theorem State.dropWrite_keyLen (s : State) : (State.dropWrite s).keyLen = s.keyLen := rfl
@[simp] theorem State.dropWrite_keySet (s : State) : (State.dropWrite s).keySet = s.keySet := rfl
@[simp] theorem State.dropWrite_mode (s : State) : (State.dropWrite s).mode = s.mode := rfl
@[simp] theorem State.dropWrite_cache (s : State) : (State.dropWrite s).cache = s.cache := rfl
@[simp] theorem State.dropWrite_last (s : State) : (State.dropWrite s).last = s.last := rfl
@[simp] theorem State.dropWrite_lastLen (s : State) : (State.dropWrite s).lastLen = s.lastLen := rfl
@[simp] theorem State.dropWrite_lastValid (s : State) : (State.dropWrite s).lastValid = s.lastValid := rfl
@[simp] theorem State.dropWrite_inner (s : State) : (State.dropWrite s).inner = s.inner := rfl
@[simp] theorem State.dropWrite_outer (s : State) : (State.dropWrite s).outer = s.outer := rfl
@[simp] theorem State.dropWrite_din (s : State) : (State.dropWrite s).din = s.din := rfl
@[simp] theorem State.dropWrite_exp (s : State) : (State.dropWrite s).exp = s.exp := rfl
@[simp] theorem State.dropWrite_tag (s : State) : (State.dropWrite s).tag = s.tag := rfl
@[simp] theorem State.dropWrite_tagLen (s : State) : (State.dropWrite s).tagLen = s.tagLen := rfl
@[simp] theorem State.dropWrite_busy (s : State) : (State.dropWrite s).busy = s.busy := rfl
@[simp] theorem State.dropWrite_matched (s : State) : (State.dropWrite s).matched = s.matched := rfl
@[simp] theorem State.dropWrite_ovr (s : State) : (State.dropWrite s).ovr = true := rfl
@[simp] theorem State.dropWrite_err (s : State) : (State.dropWrite s).err = s.err := rfl
@[simp] theorem State.dropWrite_cmd (s : State) : (State.dropWrite s).cmd = s.cmd := rfl
@[simp] theorem State.dropWrite_cyclesLeft (s : State) : (State.dropWrite s).cyclesLeft = s.cyclesLeft := rfl
@[simp] theorem State.dropWrite_host (s : State) : (State.dropWrite s).host = s.host := rfl
@[simp] theorem State.dropWrite_reads (s : State) : (State.dropWrite s).reads = s.reads := rfl

@[simp] theorem State.elapse_keyIn (gap : Nat) (s : State) : (State.elapse gap s).keyIn = s.keyIn := rfl
@[simp] theorem State.elapse_key (gap : Nat) (s : State) : (State.elapse gap s).key = s.key := rfl
@[simp] theorem State.elapse_keyLen (gap : Nat) (s : State) : (State.elapse gap s).keyLen = s.keyLen := rfl
@[simp] theorem State.elapse_keySet (gap : Nat) (s : State) : (State.elapse gap s).keySet = s.keySet := rfl
@[simp] theorem State.elapse_mode (gap : Nat) (s : State) : (State.elapse gap s).mode = s.mode := rfl
@[simp] theorem State.elapse_cache (gap : Nat) (s : State) : (State.elapse gap s).cache = s.cache := rfl
@[simp] theorem State.elapse_last (gap : Nat) (s : State) : (State.elapse gap s).last = s.last := rfl
@[simp] theorem State.elapse_lastLen (gap : Nat) (s : State) : (State.elapse gap s).lastLen = s.lastLen := rfl
@[simp] theorem State.elapse_lastValid (gap : Nat) (s : State) : (State.elapse gap s).lastValid = s.lastValid := rfl
@[simp] theorem State.elapse_inner (gap : Nat) (s : State) : (State.elapse gap s).inner = s.inner := rfl
@[simp] theorem State.elapse_outer (gap : Nat) (s : State) : (State.elapse gap s).outer = s.outer := rfl
@[simp] theorem State.elapse_din (gap : Nat) (s : State) : (State.elapse gap s).din = s.din := rfl
@[simp] theorem State.elapse_exp (gap : Nat) (s : State) : (State.elapse gap s).exp = s.exp := rfl
@[simp] theorem State.elapse_tag (gap : Nat) (s : State) : (State.elapse gap s).tag = s.tag := rfl
@[simp] theorem State.elapse_tagLen (gap : Nat) (s : State) : (State.elapse gap s).tagLen = s.tagLen := rfl
@[simp] theorem State.elapse_busy (gap : Nat) (s : State) : (State.elapse gap s).busy = s.busy := rfl
@[simp] theorem State.elapse_matched (gap : Nat) (s : State) : (State.elapse gap s).matched = s.matched := rfl
@[simp] theorem State.elapse_ovr (gap : Nat) (s : State) : (State.elapse gap s).ovr = s.ovr := rfl
@[simp] theorem State.elapse_err (gap : Nat) (s : State) : (State.elapse gap s).err = s.err := rfl
@[simp] theorem State.elapse_cmd (gap : Nat) (s : State) : (State.elapse gap s).cmd = s.cmd := rfl
@[simp] theorem State.elapse_cyclesLeft (gap : Nat) (s : State) : (State.elapse gap s).cyclesLeft = s.cyclesLeft - gap := rfl
@[simp] theorem State.elapse_host (gap : Nat) (s : State) : (State.elapse gap s).host = s.host := rfl
@[simp] theorem State.elapse_reads (gap : Nat) (s : State) : (State.elapse gap s).reads = s.reads := rfl

@[simp] theorem State.observe_keyIn (v : Word) (s : State) : (State.observe v s).keyIn = s.keyIn := rfl
@[simp] theorem State.observe_key (v : Word) (s : State) : (State.observe v s).key = s.key := rfl
@[simp] theorem State.observe_keyLen (v : Word) (s : State) : (State.observe v s).keyLen = s.keyLen := rfl
@[simp] theorem State.observe_keySet (v : Word) (s : State) : (State.observe v s).keySet = s.keySet := rfl
@[simp] theorem State.observe_mode (v : Word) (s : State) : (State.observe v s).mode = s.mode := rfl
@[simp] theorem State.observe_cache (v : Word) (s : State) : (State.observe v s).cache = s.cache := rfl
@[simp] theorem State.observe_last (v : Word) (s : State) : (State.observe v s).last = s.last := rfl
@[simp] theorem State.observe_lastLen (v : Word) (s : State) : (State.observe v s).lastLen = s.lastLen := rfl
@[simp] theorem State.observe_lastValid (v : Word) (s : State) : (State.observe v s).lastValid = s.lastValid := rfl
@[simp] theorem State.observe_inner (v : Word) (s : State) : (State.observe v s).inner = s.inner := rfl
@[simp] theorem State.observe_outer (v : Word) (s : State) : (State.observe v s).outer = s.outer := rfl
@[simp] theorem State.observe_din (v : Word) (s : State) : (State.observe v s).din = s.din := rfl
@[simp] theorem State.observe_exp (v : Word) (s : State) : (State.observe v s).exp = s.exp := rfl
@[simp] theorem State.observe_tag (v : Word) (s : State) : (State.observe v s).tag = s.tag := rfl
@[simp] theorem State.observe_tagLen (v : Word) (s : State) : (State.observe v s).tagLen = s.tagLen := rfl
@[simp] theorem State.observe_busy (v : Word) (s : State) : (State.observe v s).busy = s.busy := rfl
@[simp] theorem State.observe_matched (v : Word) (s : State) : (State.observe v s).matched = s.matched := rfl
@[simp] theorem State.observe_ovr (v : Word) (s : State) : (State.observe v s).ovr = s.ovr := rfl
@[simp] theorem State.observe_err (v : Word) (s : State) : (State.observe v s).err = s.err := rfl
@[simp] theorem State.observe_cmd (v : Word) (s : State) : (State.observe v s).cmd = s.cmd := rfl
@[simp] theorem State.observe_cyclesLeft (v : Word) (s : State) : (State.observe v s).cyclesLeft = s.cyclesLeft := rfl
@[simp] theorem State.observe_host (v : Word) (s : State) : (State.observe v s).host = s.host := rfl
@[simp] theorem State.observe_reads (v : Word) (s : State) : (State.observe v s).reads = s.reads ++ [v] := rfl

@[simp] theorem State.consume_keyIn (rest : List HostAction) (s : State) : (State.consume rest s).keyIn = s.keyIn := rfl
@[simp] theorem State.consume_key (rest : List HostAction) (s : State) : (State.consume rest s).key = s.key := rfl
@[simp] theorem State.consume_keyLen (rest : List HostAction) (s : State) : (State.consume rest s).keyLen = s.keyLen := rfl
@[simp] theorem State.consume_keySet (rest : List HostAction) (s : State) : (State.consume rest s).keySet = s.keySet := rfl
@[simp] theorem State.consume_mode (rest : List HostAction) (s : State) : (State.consume rest s).mode = s.mode := rfl
@[simp] theorem State.consume_cache (rest : List HostAction) (s : State) : (State.consume rest s).cache = s.cache := rfl
@[simp] theorem State.consume_last (rest : List HostAction) (s : State) : (State.consume rest s).last = s.last := rfl
@[simp] theorem State.consume_lastLen (rest : List HostAction) (s : State) : (State.consume rest s).lastLen = s.lastLen := rfl
@[simp] theorem State.consume_lastValid (rest : List HostAction) (s : State) : (State.consume rest s).lastValid = s.lastValid := rfl
@[simp] theorem State.consume_inner (rest : List HostAction) (s : State) : (State.consume rest s).inner = s.inner := rfl
@[simp] theorem State.consume_outer (rest : List HostAction) (s : State) : (State.consume rest s).outer = s.outer := rfl
@[simp] theorem State.consume_din (rest : List HostAction) (s : State) : (State.consume rest s).din = s.din := rfl
@[simp] theorem State.consume_exp (rest : List HostAction) (s : State) : (State.consume rest s).exp = s.exp := rfl
@[simp] theorem State.consume_tag (rest : List HostAction) (s : State) : (State.consume rest s).tag = s.tag := rfl
@[simp] theorem State.consume_tagLen (rest : List HostAction) (s : State) : (State.consume rest s).tagLen = s.tagLen := rfl
@[simp] theorem State.consume_busy (rest : List HostAction) (s : State) : (State.consume rest s).busy = s.busy := rfl
@[simp] theorem State.consume_matched (rest : List HostAction) (s : State) : (State.consume rest s).matched = s.matched := rfl
@[simp] theorem State.consume_ovr (rest : List HostAction) (s : State) : (State.consume rest s).ovr = s.ovr := rfl
@[simp] theorem State.consume_err (rest : List HostAction) (s : State) : (State.consume rest s).err = s.err := rfl
@[simp] theorem State.consume_cmd (rest : List HostAction) (s : State) : (State.consume rest s).cmd = s.cmd := rfl
@[simp] theorem State.consume_cyclesLeft (rest : List HostAction) (s : State) : (State.consume rest s).cyclesLeft = s.cyclesLeft := rfl
@[simp] theorem State.consume_host (rest : List HostAction) (s : State) : (State.consume rest s).host = rest := rfl
@[simp] theorem State.consume_reads (rest : List HostAction) (s : State) : (State.consume rest s).reads = s.reads := rfl

@[simp] theorem State.writeStatus_keyIn (v : Word) (s : State) : (State.writeStatus v s).keyIn = s.keyIn := rfl
@[simp] theorem State.writeStatus_key (v : Word) (s : State) : (State.writeStatus v s).key = s.key := rfl
@[simp] theorem State.writeStatus_keyLen (v : Word) (s : State) : (State.writeStatus v s).keyLen = s.keyLen := rfl
@[simp] theorem State.writeStatus_keySet (v : Word) (s : State) : (State.writeStatus v s).keySet = s.keySet := rfl
@[simp] theorem State.writeStatus_mode (v : Word) (s : State) : (State.writeStatus v s).mode = s.mode := rfl
@[simp] theorem State.writeStatus_cache (v : Word) (s : State) : (State.writeStatus v s).cache = s.cache := rfl
@[simp] theorem State.writeStatus_last (v : Word) (s : State) : (State.writeStatus v s).last = s.last := rfl
@[simp] theorem State.writeStatus_lastLen (v : Word) (s : State) : (State.writeStatus v s).lastLen = s.lastLen := rfl
@[simp] theorem State.writeStatus_lastValid (v : Word) (s : State) : (State.writeStatus v s).lastValid = s.lastValid := rfl
@[simp] theorem State.writeStatus_inner (v : Word) (s : State) : (State.writeStatus v s).inner = s.inner := rfl
@[simp] theorem State.writeStatus_outer (v : Word) (s : State) : (State.writeStatus v s).outer = s.outer := rfl
@[simp] theorem State.writeStatus_din (v : Word) (s : State) : (State.writeStatus v s).din = s.din := rfl
@[simp] theorem State.writeStatus_exp (v : Word) (s : State) : (State.writeStatus v s).exp = s.exp := rfl
@[simp] theorem State.writeStatus_tag (v : Word) (s : State) : (State.writeStatus v s).tag = s.tag := rfl
@[simp] theorem State.writeStatus_tagLen (v : Word) (s : State) : (State.writeStatus v s).tagLen = s.tagLen := rfl
@[simp] theorem State.writeStatus_busy (v : Word) (s : State) : (State.writeStatus v s).busy = s.busy := rfl
@[simp] theorem State.writeStatus_matched (v : Word) (s : State) : (State.writeStatus v s).matched = s.matched := rfl
@[simp] theorem State.writeStatus_ovr (v : Word) (s : State) : (State.writeStatus v s).ovr = (s.ovr && !v.getLsbD 2) := rfl
@[simp] theorem State.writeStatus_err (v : Word) (s : State) : (State.writeStatus v s).err = s.err := rfl
@[simp] theorem State.writeStatus_cmd (v : Word) (s : State) : (State.writeStatus v s).cmd = s.cmd := rfl
@[simp] theorem State.writeStatus_cyclesLeft (v : Word) (s : State) : (State.writeStatus v s).cyclesLeft = s.cyclesLeft := rfl
@[simp] theorem State.writeStatus_host (v : Word) (s : State) : (State.writeStatus v s).host = s.host := rfl
@[simp] theorem State.writeStatus_reads (v : Word) (s : State) : (State.writeStatus v s).reads = s.reads := rfl

end Sys2Proof.Machine
end

