-- ==== Sys2Proof/Laws/Ops.lean ====
section
/-! SUPPORT. What each shared operation answers: one lemma that says all of it, for callers to cite. -/

namespace Sys2Proof.Machine

theorem raiseError_next {e : ErrCode} {s t : State} (h : raiseError e s = .next t) : t = s.complete e := by
  simpa [raiseError] using h.symm

/-- SET_MODE to a CMAC mode answers one of the two errors or the initialised core. -/
theorem setCmacMode_cases (m : Mode) (s : State) :
    (s.keySet = false ∧ setCmacMode m s = .next (s.complete .keyNotSet)) ∨
    (s.keySet = true ∧ s.keyLen ≠ 16 ∧ setCmacMode m s = .next (s.complete .invalidKeyLength)) ∨
    (s.keySet = true ∧ s.keyLen = 16 ∧
      setCmacMode m s = .next (((s.selectMode m).clearCmac.setContexts Option.none Option.none).succeed false)) := by
  by_cases hk : s.keySet = false
  · exact .inl ⟨hk, by simp [setCmacMode, hk, raiseError]⟩
  · have hk' : s.keySet = true := by simpa using hk
    by_cases hl : s.keyLen = 16
    · exact .inr (.inr ⟨hk', hl, by simp [setCmacMode, hk', hl]⟩)
    · exact .inr (.inl ⟨hk', hl, by simp [setCmacMode, hk', hl, raiseError]⟩)

/-- SET_MODE to HMAC answers the error or the seeded core. -/
theorem setHmacMode_cases (s : State) :
    (s.keySet = false ∧ setHmacMode s = .next (s.complete .keyNotSet)) ∨
    (s.keySet = true ∧ setHmacMode s = .next ((s.selectMode .hmac).clearCmac.seedHmac.succeed false)) := by
  cases hk : s.keySet <;> simp [setHmacMode, hk, raiseError]

/-- The CMAC arm of ADD_BLOCK answers one of the two errors or the state after the add. -/
theorem addCmac_cases (len : Nat) (s : State) :
    (16 < len ∧ addCmac len s = .next (s.complete .invalidDataLength)) ∨
    (len ≤ 16 ∧ s.lastValid = true ∧ s.lastLen < 16 ∧ addCmac len s = .next (s.complete .sequence)) ∨
    (len ≤ 16 ∧ (s.lastValid = true → 16 ≤ s.lastLen) ∧
      addCmac len s = .next ((s.cmacAdd (dinBytes len s)).succeed false)) := by
  by_cases hl : 16 < len
  · exact .inl ⟨hl, by simp [addCmac, hl, raiseError]⟩
  · by_cases hs : s.lastValid = true ∧ s.lastLen < 16
    · exact .inr (.inl ⟨by omega, hs.1, hs.2, by simp [addCmac, hl, hs, raiseError]⟩)
    · refine .inr (.inr ⟨by omega, fun hv => ?_, by simp only [addCmac, hl, hs, if_false]⟩)
      exact Nat.le_of_not_lt fun h => hs ⟨hv, h⟩

/-- The HMAC arm of ADD_BLOCK answers the error or the state after the update. -/
theorem addHmac_cases (len : Nat) (s : State) :
    (64 < len ∧ addHmac len s = .next (s.complete .invalidDataLength)) ∨
    (len ≤ 64 ∧ addHmac len s = .next ((s.hmacAdd (dinBytes len s)).succeed false)) := by
  by_cases hl : 64 < len
  · exact .inl ⟨hl, by simp [addHmac, hl, raiseError]⟩
  · exact .inr ⟨by omega, by simp [addHmac, hl]⟩

/-- `mac_result()` gives nothing exactly when MODE = NONE. -/
theorem macResult_none (s : State) : macResult s = Option.none ↔ s.mode = .none := by
  cases hm : s.mode <;> simp [macResult, hm]

end Sys2Proof.Machine
end

