-- ==== Sys2Proof/Laws/PerInstr.lean ====
section
/-! SUPPORT. Facts about every instruction as syntax, one lemma per constructor. -/

namespace Sys2Proof.Laws

/-- The row of spec/opcode_table.json an instruction belongs to: its match and mask (30_encoding.md R77). -/
def row (i : Instr) : Word × Word :=
  match i with
  | .setKey _ => (0x00000001#32, 0xFFFF80FF#32)
  | .setModeOmac => (0x00000012#32, 0xFFFFFFFF#32)
  | .setModeTmac => (0x00000022#32, 0xFFFFFFFF#32)
  | .setModeHmac => (0x00000032#32, 0xFFFFFFFF#32)
  | .addBlock _ => (0x00000003#32, 0xFFFF80FF#32)
  | .finalize => (0x00000004#32, 0xFFFFFFFF#32)
  | .verify => (0x00000005#32, 0xFFFFFFFF#32)

/-- Only the LEN field of `assemble` lies outside the mask of the rows that have one. -/
theorem assemble_masked (len : BitVec 7) (mode : BitVec 2) (op : BitVec 4) :
    assemble len mode op &&& 0xFFFF80FF#32 = assemble 0#7 mode op := by
  ext i hi
  interval_cases i <;> simp [assemble]

namespace Row

/-- The encoding of an instruction lies in its row of the opcode table. -/
def Statement (i : Instr) : Prop := encode i &&& (row i).2 = (row i).1

theorem setKey (len : Nat) : Statement (.setKey len) := by
  simpa [Statement, row, encode] using (assemble_masked (BitVec.ofNat 7 len) 0b00#2 0x1#4).trans (by decide)

theorem setModeOmac : Statement .setModeOmac := by unfold Statement; decide

theorem setModeTmac : Statement .setModeTmac := by unfold Statement; decide

theorem setModeHmac : Statement .setModeHmac := by unfold Statement; decide

theorem addBlock (len : Nat) : Statement (.addBlock len) := by
  simpa [Statement, row, encode] using (assemble_masked (BitVec.ofNat 7 len) 0b00#2 0x3#4).trans (by decide)

theorem finalize : Statement .finalize := by unfold Statement; decide

theorem verify : Statement .verify := by unfold Statement; decide

end Row

end Sys2Proof.Laws
end

