-- ==== Sys2Proof/Laws/Step.lean ====
section
/-! SUPPORT. Everything one step can do. -/

namespace Sys2Proof.Machine

/-- The ways a step answers: the command in progress completes, or the host's next action is applied. -/
theorem step_cases (s : State) :
    (s.busy = false ∧ s.host = [] ∧ step s = .next s) ∨
    (∃ rest, s.host = .reset :: rest ∧ step s = .next (s.assertReset rest)) ∨
    (∃ rest, s.busy = false ∧ s.host = .wait :: rest ∧ step s = .next (s.consume rest)) ∨
    (s.busy = true ∧ (∀ rest, s.host ≠ .reset :: rest) ∧ step s = runCommand s) ∨
    (∃ gap width off v rest, completesBefore gap s = false ∧ s.host = .write gap width off v :: rest ∧
      step s = hostWrite gap width off v rest s) ∨
    (∃ gap width off rest, completesBefore gap s = false ∧ s.host = .read gap width off :: rest ∧
      step s = hostRead gap width off rest s) := by
  unfold step hostStep
  cases hb : s.busy with
  | false =>
    cases hh : s.host with
    | nil => simp
    | cons a rest => cases a <;> simp [completesBefore, hb]
  | true =>
    cases hh : s.host with
    | nil => simp
    | cons a rest =>
      cases a with
      | wait => simp
      | reset => simp
      | write gap width off v => by_cases hg : s.cyclesLeft ≤ gap <;> simp [completesBefore, hb, hg, Nat.lt_of_not_le]
      | read gap width off => by_cases hg : s.cyclesLeft ≤ gap <;> simp [completesBefore, hb, hg, Nat.lt_of_not_le]

/-- A host write that reaches the block is refused, dropped or applied. -/
theorem hostWrite_cases (gap : Nat) (width : Width) (off : BitVec 8) (v : Word) (rest : List HostAction) (s : State) :
    (accessTaken width off = false ∧ hostWrite gap width off v rest s = .fault .busError) ∨
    (accessTaken width off = true ∧ s.busy = true ∧
      hostWrite gap width off v rest s = .next ((s.dropWrite.elapse gap).consume rest)) ∨
    (accessTaken width off = true ∧ s.busy = false ∧
      hostWrite gap width off v rest s = .next ((windowWrite off v s).consume rest)) := by
  unfold hostWrite
  cases ha : accessTaken width off <;> cases hb : s.busy <;> simp

/-- A host read that reaches the block is refused or answered. -/
theorem hostRead_cases (gap : Nat) (width : Width) (off : BitVec 8) (rest : List HostAction) (s : State) :
    (accessTaken width off = false ∧ hostRead gap width off rest s = .fault .busError) ∨
    (accessTaken width off = true ∧
      hostRead gap width off rest s = .next (((s.observe (windowRead off s)).elapse gap).consume rest)) := by
  unfold hostRead
  cases ha : accessTaken width off <;> simp

/-- The command in progress runs as the instruction its word decodes to, or completes as ILLEGAL_CMD. -/
theorem runCommand_cases (s : State) :
    (∃ i, decode s.cmd = .ok i ∧ runCommand s = exec i s) ∨
    (∃ e, decode s.cmd = .error e ∧ runCommand s = .next (s.complete .illegalCmd)) := by
  unfold runCommand
  cases hd : decode s.cmd <;> simp [raiseError]

end Sys2Proof.Machine
end

