-- ==== Sys2Proof/Tests/Slice0.lean ====
section
/-! SUPPORT. Tests of this model. Expected values come from the spec's encodings, worked examples and vectors
(30_encoding.md R86, 95_test_vectors.md), not from the model. Each `witness_` theorem shows a state and operands that meet
the hypotheses of one obligation together. -/

namespace Sys2Proof.Tests

open Sys2Proof.Machine Sys2Proof.Claims

/-! ### Helpers -/

/-- The n bytes that 2n hexadecimal digits name, first byte first (00_scope.md R14). -/
def hex (n v : Nat) : List Byte := (List.range n).map fun i => BitVec.ofNat 8 (v / 256 ^ (n - 1 - i))

/-- A block from its hexadecimal digits. -/
def blockHex (v : Nat) : Block := bytesOf 16 (hex 16 v)

/-- The property holds of the next state; false on a fault or a refusal. -/
def goesOn (r : Result) (p : State → Bool) : Bool :=
  match r with
  | .next t => p t
  | .fault _ => false
  | .refused _ => false

/-- Key K of 95_test_vectors.md. -/
def keyK : List Byte := hex 16 0x2b7e151628aed2a6abf7158809cf4f3c

/-- After SET_KEY of a 16-byte key (all zeros). -/
def keyed : State := { State.reset with keyLen := 16, keySet := true }

/-- In OMAC mode, nothing held. -/
def omac : State := { keyed with mode := .omac }

/-- In OMAC mode with a block of 8 bytes held: V3.17's first command. -/
def omacShort : State :=
  { omac with last := blockHex 0x6bc1bee22e409f960000000000000000, lastLen := 8, lastValid := true }

/-- In TMAC mode with a full block held. -/
def tmacFull : State :=
  { keyed with mode := .tmac, last := blockHex 0x6bc1bee22e409f96e93d7e117393172a, lastLen := 16, lastValid := true }

/-- In HMAC mode with the empty message so far. -/
def hmac : State :=
  { keyed with mode := .hmac, inner := some (seedInner (hmacKey keyed)), outer := some (seedOuter (hmacKey keyed)) }

/-- The word `w` in progress with `n` cycles left, the host about to do `h`. -/
def running (w : Word) (n : Nat) (h : List HostAction) (s : State) : State :=
  { s with busy := true, cmd := w, cyclesLeft := n, host := h }

/-- The host about to do `h`. -/
def withHost (h : List HostAction) (s : State) : State := { s with host := h }

/-! ### Well-formedness: the ill-formed terms are refused -/

theorem test_setKey_128_is_ill_formed : wellFormed (.setKey 128) = false := by decide

theorem test_addBlock_128_is_ill_formed : wellFormed (.addBlock 128) = false := by decide

theorem test_len_127_is_well_formed : wellFormed (.setKey 127) = true ∧ wellFormed (.addBlock 127) = true := by decide

/-! ### Decoding: words written bit by bit from 30_encoding.md R70, as `reserved LEN 00 MODE OP` -/

theorem test_decode_setKey_16 : decode 0b00000000000000000_0010000_00_00_0001#32 = .ok (.setKey 16) := by rfl

theorem test_decode_setModeOmac : decode 0b00000000000000000_0000000_00_01_0010#32 = .ok .setModeOmac := by rfl

theorem test_decode_setModeTmac : decode 0b00000000000000000_0000000_00_10_0010#32 = .ok .setModeTmac := by rfl

theorem test_decode_setModeHmac : decode 0b00000000000000000_0000000_00_11_0010#32 = .ok .setModeHmac := by rfl

theorem test_decode_addBlock_64 : decode 0b00000000000000000_1000000_00_00_0011#32 = .ok (.addBlock 64) := by rfl

theorem test_decode_addBlock_127 : decode 0b00000000000000000_1111111_00_00_0011#32 = .ok (.addBlock 127) := by rfl

theorem test_decode_finalize : decode 0b00000000000000000_0000000_00_00_0100#32 = .ok .finalize := by rfl

theorem test_decode_verify : decode 0b00000000000000000_0000000_00_00_0101#32 = .ok .verify := by rfl

/-- The illegal examples of R86, then one word for each other clause of R76. -/
theorem test_decode_illegal :
    decode 0x00000000#32 = .error .noSuchOp ∧ decode 0x00000002#32 = .error .setModeNone ∧
    decode 0x00001004#32 = .error .lenNotZero ∧ decode 0x00008003#32 = .error .reservedBit ∧
    decode 0x00000013#32 = .error .modeNotZero ∧ decode 0x0000000F#32 = .error .noSuchOp ∧
    decode 0x00000006#32 = .error .noSuchOp ∧ decode 0x00000041#32 = .error .reservedBit ∧
    decode 0x80000005#32 = .error .reservedBit ∧ decode 0x00000112#32 = .error .lenNotZero ∧
    decode 0x00000015#32 = .error .modeNotZero := ⟨rfl, rfl, rfl, rfl, rfl, rfl, rfl, rfl, rfl, rfl, rfl⟩

/-- R79: the words of the host syntax. -/
theorem test_encode_words :
    encode (.setKey 20) = 0x00001401#32 ∧ encode .setModeTmac = 0x00000022#32 ∧
    encode (.addBlock 8) = 0x00000803#32 ∧ encode .verify = 0x00000005#32 := by decide

theorem test_decodeTableWord :
    decodeTableWord 32 0x00000032 = some .setModeHmac ∧ decodeTableWord 32 0x00000001 = some (.setKey 0) := ⟨rfl, rfl⟩

/-! ### The CMAC core: 95_test_vectors.md sections 2 and 3.1, under the subkeys and tags of key K -/

/-- V2.2, V2.3 and V2.7. -/
theorem test_doubling :
    dbl (blockHex 0x80000000000000000000000000000000) = blockHex 0x87 ∧
    dbl (blockHex 0xffffffffffffffffffffffffffffffff) = blockHex 0xffffffffffffffffffffffffffffff79 ∧
    dbl (blockHex 0x87) = blockHex 0x10e := by decide

/-- The cipher at the blocks V1.1 and V1.2 give it: `L`, then the tags of the empty and the one-block message. -/
def cipherTable (B : Block) : Block :=
  if B = blockHex 0 then blockHex 0x7df76b0c1ab899b33e42f047b91b546f
  else if B = xorBytes (blockHex 0x80000000000000000000000000000000) (blockHex 0xf7ddac306ae266ccf90bc11ee46d513b) then
    blockHex 0xbb1d6929e95937287fa37d129b756746
  else if B = xorBytes (blockHex 0x6bc1bee22e409f96e93d7e117393172a) (blockHex 0xfbeed618357133667c85e08f7236a8de) then
    blockHex 0x070a16b46b4d4144f79bdd9dd04a287c
  else blockHex 0

/-- V1.1: the empty message takes the K2 path. -/
theorem test_cmacTag_empty :
    cmacTag cipherTable padIso (blockHex 0) [] = blockHex 0xbb1d6929e95937287fa37d129b756746 := by decide

/-- V1.2: one full block takes the K1 path. -/
theorem test_cmacTag_one_block :
    cmacTag cipherTable padIso (blockHex 0) (hex 16 0x6bc1bee22e409f96e93d7e117393172a) =
      blockHex 0x070a16b46b4d4144f79bdd9dd04a287c := by decide

/-- V3.P1 and V3.P3. -/
theorem test_padIso :
    padIso [] = blockHex 0x80000000000000000000000000000000 ∧
    padIso (hex 15 0x6bc1bee22e409f96e93d7e11739317) = blockHex 0x6bc1bee22e409f96e93d7e1173931780 := by decide

/-- V3.P4, V3.P5 and V3.P6. -/
theorem test_padPkcs7 :
    padPkcs7 [] = blockHex 0x10101010101010101010101010101010 ∧
    padPkcs7 (hex 4 0x6bc1bee2) = blockHex 0x6bc1bee20c0c0c0c0c0c0c0c0c0c0c0c ∧
    padPkcs7 (hex 15 0x6bc1bee22e409f96e93d7e11739317) = blockHex 0x6bc1bee22e409f96e93d7e1173931701 := by decide

/-- 42_hmac_core.md R131's example: the first 16 bytes of the inner and the outer seed block of key K. -/
theorem test_hmac_seeds :
    (seedBytes 0x36#8 keyK).toList.take 17 = hex 17 0x1d4823201e98e4909dc123be3ff9790a36 ∧
    (seedBytes 0x5c#8 keyK).toList.take 17 = hex 17 0x7722494a74f28efaf7ab49d4559313605c := by decide

/-- 43_commands.md R142's example: a difference in the last byte is seen. -/
theorem test_ctEqual :
    ctEqual (hex 16 0x070a16b46b4d4144f79bdd9dd04a287c) (hex 16 0x070a16b46b4d4144f79bdd9dd04a287c) = true ∧
    ctEqual (hex 16 0x070a16b46b4d4144f79bdd9dd04a287c) (hex 16 0x070a16b46b4d4144f79bdd9dd04a287d) = false := by decide

/-! ### The instructions -/

/-- 40_setup.md R100's example; byte 16 of KEY_IN is not part of the key. -/
theorem test_setKey :
    goesOn (exec (.setKey 16) { omacShort with keyIn := bytesOf 64 (keyK ++ [0xff#8]), matched := true }) (fun t =>
      t.key == bytesOf 64 keyK && t.keyLen == 16 && t.keySet && t.mode == .none && !t.lastValid && !t.matched &&
        t.err == .ok) = true := by decide

/-- 40_setup.md R100: LEN 0 and LEN 65 are refused and the mode stays. -/
theorem test_setKey_lengths :
    goesOn (exec (.setKey 0) omac) (fun t => t.err == .invalidKeyLength && t.mode == .omac) = true ∧
    goesOn (exec (.setKey 65) omac) (fun t => t.err == .invalidKeyLength && t.mode == .omac) = true := by decide

theorem test_setModeOmac :
    goesOn (exec .setModeOmac omacShort) (fun t => t.mode == .omac && !t.lastValid && t.lastLen == 0 && t.err == .ok) =
      true := by decide

/-- 60_exceptions.md R161: KEY_NOT_SET comes before INVALID_KEY_LENGTH. -/
theorem test_setModeTmac_errors :
    goesOn (exec .setModeTmac State.reset) (fun t => t.err == .keyNotSet) = true ∧
    goesOn (exec .setModeTmac { keyed with keyLen := 20 }) (fun t => t.err == .invalidKeyLength && t.mode == .none) =
      true := by decide

/-- 40_setup.md R101: HMAC takes a key of any length, and the held block goes. -/
theorem test_setModeHmac :
    goesOn (exec .setModeHmac { omacShort with keyLen := 20 }) (fun t =>
      t.mode == .hmac && !t.lastValid && t.inner.isSome && t.outer.isSome && t.err == .ok) = true := by decide

/-- V3.17: a second block after a short one is a SEQUENCE error. -/
theorem test_addBlock_sequence :
    goesOn (exec (.addBlock 8) omacShort) (fun t =>
      t.err == .sequence && t.lastLen == 8 && t.last == blockHex 0x6bc1bee22e409f960000000000000000) = true := by decide

/-- 43_commands.md R140: 17 bytes are too many in a CMAC mode and not in HMAC mode, where OUTER and the
CMAC core stay. -/
theorem test_addBlock_lengths :
    goesOn (exec (.addBlock 17) omac) (fun t => t.err == .invalidDataLength) = true ∧
    goesOn (exec (.addBlock 17) hmac) (fun t => t.err == .ok && t.inner.isSome && !t.lastValid) = true ∧
    ∃ t, exec (.addBlock 17) hmac = .next t ∧ t.outer = hmac.outer := ⟨by decide, by decide, _, rfl, rfl⟩

/-- 43_commands.md R141 and R144: FINALIZE in TMAC mode sets TAGLEN to 8, fills TAG with zeros and drops the held block. -/
theorem test_finalize :
    ∃ t, exec .finalize tmacFull = .next t ∧ t.tagLen = 8 ∧ t.tag[8] = 0x00#8 ∧ t.lastValid = false ∧
      t.mode = .tmac ∧ t.err = .ok := by
  refine ⟨_, rfl, ?_, ?_, rfl, rfl, rfl⟩ <;> simp [tmacTag]

/-- Comparing a tag with itself finds no difference. -/
theorem ctEqual_self (a : List Byte) : ctEqual a a = true := by
  induction a with
  | nil => rfl
  | cons x a ih => simpa [ctEqual] using ih

/-- 43_commands.md R142: with the tag in EXP, VERIFY sets MATCH, and leaves TAGLEN as it was. -/
theorem test_verify_match :
    ∃ t, exec .verify { tmacFull with exp := bytesOf 32 (tmacTag tmacFull) } = .next t ∧ t.matched = true ∧
      t.tagLen = 0 ∧ t.err = .ok := by
  refine ⟨_, rfl, ?_, rfl, rfl⟩
  have same : expBytes 8 { tmacFull with exp := bytesOf 32 (tmacTag tmacFull) } = tmacTag tmacFull := by
    simp only [expBytes, firstBytes, bytesOf]
    apply List.ext_getElem <;> simp +contextual [tmacTag]
  have tag : tmacTag { tmacFull with exp := bytesOf 32 (tmacTag tmacFull) } = tmacTag tmacFull := rfl
  have len : (tmacTag tmacFull).length = 8 := by simp [tmacTag]
  simp only [State.succeed, State.complete, tag, len, same]
  exact ctEqual_self _

theorem test_verify_errors :
    goesOn (exec .verify State.reset) (fun t => t.err == .keyNotSet) = true ∧
    goesOn (exec .verify keyed) (fun t => t.err == .modeNotSet) = true := by decide

/-! ### The window and the step -/

/-- 20_memory.md R56: the worked lane example. -/
theorem test_tag_lanes :
    windowRead 0xE0#8 { omac with tag := bytesOf 32 (hex 16 0xbb1d6929e95937287fa37d129b756746) } = 0x29691DBB#32 ∧
    windowRead 0xEC#8 { omac with tag := bytesOf 32 (hex 16 0xbb1d6929e95937287fa37d129b756746) } = 0x4667759B#32 := by
  decide

/-- 10_state.md R34 and R35, as fields set one by one: TAGLEN 16, ERR 6, OVR; KEY_SET, OMAC, HELD of 8 bytes, KEYLEN 16. -/
theorem test_status_and_info :
    windowRead 0x04#8 { omacShort with tagLen := 16, err := .sequence, ovr := true } = 0x00001064#32 ∧
    windowRead 0x08#8 omacShort = 0x0010008B#32 := by decide

/-- 20_memory.md R52 at the boundary of each row. -/
theorem test_register_map :
    [0x00#8, 0x04#8, 0x08#8, 0x0C#8, 0x3C#8, 0x40#8, 0x7C#8, 0x80#8, 0xBC#8, 0xC0#8, 0xDC#8, 0xE0#8, 0xFC#8].map regAt =
      [.cmd, .status, .info, .reserved, .reserved, .keyIn 0, .keyIn 15, .din 0, .din 15, .exp 0, .exp 7, .tag 0, .tag 7] := by
  decide

/-- 30_encoding.md R83, and log 22: no expansion in MODE NONE. -/
theorem test_no_expansion_without_a_mode :
    resetCore .none = none ∧ compute .none [] = none ∧ verifyMac .none [] [] = none := ⟨rfl, rfl, rfl⟩

/-- A dropped write sets OVR and leaves DIN (70_reset_and_hazards.md R192). -/
theorem test_write_while_busy :
    goesOn (step (running 0x00000004#32 5 [.write 2 .word 0x80#8 0xFFFFFFFF#32] omac)) (fun t =>
      t.ovr && t.busy && t.din == omac.din && t.cyclesLeft == 3) = true := by decide

/-- The word that `withFetchWord` places is the one the next step runs, right after reset. -/
theorem test_withFetchWord :
    goesOn (step (State.reset.withFetchWord 32 0x00001001)) (fun t => t.keySet && t.keyLen == 16 && !t.busy) = true ∧
    goesOn (step (State.reset.withFetchWord 32 0x00000004)) (fun t => t.err == .keyNotSet) = true := by decide

/-! ### Witnesses: the hypotheses of the obligations can be met together -/

/-- What a step or a command answers, as a proposition of its next state. -/
def NextState (r : Result) (p : State → Prop) : Prop := ∃ t, r = .next t ∧ p t

theorem witness_DecodeInvertsEncode : WellFormed (.setKey 0) ∧ WellFormed (.addBlock 127) ∧ WellFormed .setModeHmac := by
  decide

theorem witness_EncodeInvertsDecode : decode 0x00007F03#32 = .ok (.addBlock 127) := rfl

/-- The four shapes of the host in which a command in progress completes. -/
theorem witness_Completing :
    Completing (running 0x00000004#32 3 [] omac) ∧ Completing (running 0x00000004#32 3 [.wait] omac) ∧
    Completing (running 0x00000004#32 3 [.write 3 .word 0x80#8 1#32] omac) ∧
    Completing (running 0x00000004#32 3 [.read 3 .word 0x04#8] omac) := by
  simp [Completing, running]

theorem witness_IllegalWordsCompleteWithIllegalCmd :
    IllegalWord 0x00008003#32 ∧ (running 0x00008003#32 1 [.wait] omac).cmd = 0x00008003#32 ∧
    Completing (running 0x00008003#32 1 [.wait] omac) := by
  simp [IllegalWord, Completing, running]

theorem witness_StepRunsTheDecodedCommand :
    Completing (running 0x00000004#32 1 [.wait] omac) ∧
    decode (running 0x00000004#32 1 [.wait] omac).cmd = .ok .finalize :=
  ⟨⟨rfl, trivial⟩, rfl⟩

theorem witness_WrittenCommandRunsNext :
    WellFormed (.addBlock 64) ∧ (withHost [.write 7 .word 0x00#8 (encode (.addBlock 64)), .wait] hmac).busy = false ∧
    (withHost [.write 7 .word 0x00#8 (encode (.addBlock 64)), .wait] hmac).host =
      .write 7 .word 0x00#8 (encode (.addBlock 64)) :: .wait :: [] :=
  ⟨by decide, rfl, rfl⟩

/-- Also for ErrorChangesOnlyErr (an error) and NoCommandWritesTheBuffers. -/
theorem witness_ExecIgnoresBusyInterval :
    NextState (exec .finalize State.reset) (fun t => t.err ≠ .ok) ∧
    NextState (exec .setModeOmac keyed) (fun t => t.err = .ok ∧ t.mode = .omac) :=
  ⟨⟨_, rfl, by decide⟩, ⟨_, rfl, rfl, rfl⟩⟩

/-- Two accesses of 2 and 3 cycles inside a BUSY interval of 6, a write and a read. -/
theorem witness_AccessesWhileBusyDoNotDisturbTheCommand :
    let during : List HostAction := [.write 2 .word 0xFC#8 1#32, .read 3 .word 0x04#8]
    let s := running 0x00000004#32 6 (during ++ [.wait]) omac
    s.busy = true ∧ decode s.cmd = .ok .finalize ∧ (∀ x ∈ during, IsTaken x) ∧ (during.map gapOf).sum < s.cyclesLeft ∧
      s.host = during ++ .wait :: [] := by
  refine ⟨rfl, rfl, ?_, by decide, rfl⟩
  simp [IsTaken]

/-- The last cycle before completion (gap 5 of 6), a write and a read. -/
theorem witness_WriteWhileBusyIsDropped :
    let w := running 0x00000004#32 6 [.write 5 .word 0x00#8 1#32] omac
    let r := running 0x00000004#32 6 [.read 5 .word 0xE0#8] omac
    (w.busy = true ∧ 5 < w.cyclesLeft ∧ (0x00#8).toNat % 4 = 0 ∧ w.host = .write 5 .word 0x00#8 1#32 :: []) ∧
    (r.busy = true ∧ 5 < r.cyclesLeft ∧ (0xE0#8).toNat % 4 = 0 ∧ r.host = .read 5 .word 0xE0#8 :: []) :=
  ⟨⟨rfl, by decide, by decide, rfl⟩, ⟨rfl, by decide, by decide, rfl⟩⟩

/-- A byte write, a half-word read and a word write at an odd offset; idle and while BUSY. -/
theorem witness_RefusedAccessIsABusError :
    ReachesNow 0 (withHost [.write 0 .byte 0x80#8 1#32] omac) ∧ Width.byte ≠ .word ∧ Width.half ≠ .word ∧
    (0x81#8).toNat % 4 ≠ 0 ∧ ReachesNow 2 (running 0x00000004#32 3 [.read 2 .half 0x04#8] omac) ∧
    (running 0x00000004#32 3 [.read 2 .half 0x04#8] omac).host = .read 2 .half 0x04#8 :: [] := by
  refine ⟨?_, by decide, by decide, by decide, ?_, rfl⟩ <;> simp [ReachesNow, running, withHost, omac, keyed, State.reset]

theorem witness_FaultlessStepGoesOn :
    hostProgramFault (withHost [.write 0 .word 0x00#8 1#32] omac) = false ∧
    hostProgramFault (running 0x00000004#32 3 [.write 3 .word 0x80#8 1#32] omac) = false := by decide

/-- Every offset of the window is met by an idle state; then the boundary offsets of each clause. -/
theorem witness_HostWriteEffects :
    (∀ off : BitVec 8, (withHost [.write 0 .word off 4#32] omac).busy = false ∧
      (withHost [.write 0 .word off 4#32] omac).host = .write 0 .word off 4#32 :: []) ∧
    (∀ off ∈ [0x00#8, 0x04#8, 0x08#8, 0x3C#8, 0x40#8, 0x7C#8, 0x80#8, 0xBC#8, 0xC0#8, 0xDC#8, 0xE0#8, 0xFC#8],
      off.toNat % 4 = 0) ∧
    0x08 ≤ (0x08#8).toNat ∧ (0x3C#8).toNat < 0x40 ∧ 0x40 ≤ (0x40#8).toNat ∧ (0x7C#8).toNat < 0x80 ∧
    0x80 ≤ (0x80#8).toNat ∧ (0xBC#8).toNat < 0xC0 ∧ 0xC0 ≤ (0xC0#8).toNat ∧ (0xDC#8).toNat < 0xE0 ∧
    0xE0 ≤ (0xE0#8).toNat :=
  ⟨fun _ => ⟨rfl, rfl⟩, by decide, by decide, by decide, by decide, by decide, by decide, by decide, by decide, by decide,
    by decide⟩

theorem witness_ReadsHaveNoSideEffect :
    (withHost [.read 0 .word 0x08#8, .read 4 .word 0x08#8] omacShort).busy = false ∧ (0x08#8).toNat % 4 = 0 ∧
    (withHost [.read 0 .word 0x08#8, .read 4 .word 0x08#8] omacShort).host =
      .read 0 .word 0x08#8 :: .read 4 .word 0x08#8 :: [] ∧
    (withHost [.read 0 .word 0x08#8, .read 4 .word 0x08#8] omacShort).cyclesLeft = 0 :=
  ⟨rfl, by decide, rfl, rfl⟩

/-- The empty byte string and the longest of each buffer. -/
theorem witness_LoadsWriteTheBuffers :
    let h := loadKey (hex 64 0) ++ [HostAction.wait]
    let d := loadDin [] ++ [HostAction.wait]
    let e := loadExp (hex 32 0) ++ [HostAction.wait]
    omac.busy = false ∧ (hex 64 0).length ≤ 64 ∧ ([] : List Byte).length ≤ 64 ∧ (hex 32 0).length ≤ 32 ∧
      (withHost h omac).host = h ∧ (withHost d omac).host = d ∧ (withHost e omac).host = e :=
  ⟨rfl, by decide, by decide, by decide, rfl, rfl, rfl⟩

/-- The first and last word of each buffer, and of the offsets that read 0. -/
theorem witness_WindowReadsFollowTheMap :
    0x0C ≤ (0x0C#8).toNat ∧ (0x7C#8).toNat < 0x80 ∧ (0x80#8).toNat = 0x80 + 4 * (0 : Fin 16).val ∧
    (0xBC#8).toNat = 0x80 + 4 * (15 : Fin 16).val ∧ (0xC0#8).toNat = 0xC0 + 4 * (0 : Fin 8).val ∧
    (0xDC#8).toNat = 0xC0 + 4 * (7 : Fin 8).val ∧ (0xE0#8).toNat = 0xE0 + 4 * (0 : Fin 8).val ∧
    (0xFC#8).toNat = 0xE0 + 4 * (7 : Fin 8).val := by decide

theorem witness_StatusAndInfoShowTheirFields :
    ({ omac with tagLen := 32 }).tagLen < 64 ∧ ({ omac with keyLen := 64 }).keyLen < 128 ∧ tmacFull.lastLen < 32 := by
  decide

theorem witness_BufferWordReadsBack :
    let s := fun off : BitVec 8 => withHost [.write 0 .word off 0x01020304#32, .read 0 .word off] omac
    (∀ off, (s off).busy = false ∧ (s off).host = .write 0 .word off 0x01020304#32 :: .read 0 .word off :: []) ∧
    (∀ off ∈ [0x80#8, 0xBC#8, 0xC0#8, 0xDC#8], off.toNat % 4 = 0 ∧ 0x80 ≤ off.toNat ∧ off.toNat < 0xE0) :=
  ⟨fun _ => ⟨rfl, rfl⟩, by decide⟩

/-- Also for VerifyShowsOnlyMatch and LatencyShowsNoSecret: two states that differ in the key, the chain value and the held bytes and look the same to the host. -/
theorem witness_SecretsAreNotReadable :
    let a := withHost [.read 0 .word 0x40#8] omacShort
    let b := { a with key := bytesOf 64 keyK, cache := blockHex 1, last := blockHex 2 }
    SameInView a b ∧ a.key ≠ b.key ∧ ReachesNow 0 a ∧ ReachesNow 0 b ∧ (0x40#8).toNat % 4 = 0 ∧
      a.host = .read 0 .word 0x40#8 :: [] ∧ b.host = a.host := by
  refine ⟨⟨rfl, rfl, rfl, rfl, rfl, rfl, rfl, rfl, rfl, rfl, rfl, rfl, rfl⟩, by decide, ?_, ?_, by decide, rfl, rfl⟩ <;>
    intro h <;> exact absurd h (by decide)

/-- Also for SetModeSeedsTheHmacCore, CmacOfAWholeMessage and HmacOfAWholeMessage. -/
theorem witness_SetModeStartsTheCmacCore :
    IsCmac .omac ∧ IsCmac .tmac ∧ keyed.keySet = true ∧ keyed.keyLen = 16 := ⟨.inl rfl, .inr rfl, rfl, rfl⟩

/-- The ends of the range of LEN that SET_KEY accepts. -/
theorem witness_SetKeyLatchesTheKey : (1 ≤ 1 ∧ 1 ≤ 64) ∧ (1 ≤ 64 ∧ 64 ≤ 64) := by decide

theorem witness_inv_omacShort : Inv omacShort := by constructor <;> decide

theorem witness_inv_tmacFull : Inv tmacFull := by constructor <;> decide

theorem witness_inv_hmac : Inv hmac := by constructor <;> decide

theorem witness_inv_running : Inv (running 0x00000004#32 6 [.write 2 .word 0x80#8 1#32] omacShort) := by
  constructor <;> decide

theorem witness_seeded_hmac : Seeded hmac := ⟨fun _ => rfl, fun _ => ⟨[], rfl⟩⟩

/-- The key-less states of ErrorsAreReportedInOrder. -/
theorem witness_ErrorsAreReportedInOrder :
    Inv { State.reset with ovr := true } ∧ ({ State.reset with ovr := true }).keySet = false ∧
    Completing (running 0x00000000#32 1 [.wait] State.reset) ∧
    decode (running 0x00000000#32 1 [.wait] State.reset).cmd = .error .noSuchOp :=
  ⟨by constructor <;> decide, rfl, ⟨rfl, trivial⟩, rfl⟩

/-- MATCH before, and: an error, a success of another command, a VERIFY that ends OK, and a host access. -/
theorem witness_MatchLastsUntilTheNextSuccess :
    let s := { omac with matched := true }
    Completing (running 0x00001103#32 1 [.wait] s) ∧
    NextState (step (running 0x00001103#32 1 [.wait] s)) (fun t => t.err ≠ .ok) ∧
    NextState (step (running 0x00001003#32 1 [.wait] s)) (fun t => t.err = .ok) ∧
    decode 0x00001003#32 ≠ .ok .verify ∧ decode 0x00000005#32 = .ok .verify ∧
    NextState (step (running 0x00000005#32 1 [.wait] s)) (fun t => t.err = .ok) ∧
    ¬Completing (withHost [.read 0 .word 0x04#8] s) ∧
    NextState (step (withHost [.read 0 .word 0x04#8] s)) (fun t => t.matched = true) := by
  refine ⟨⟨rfl, trivial⟩, ⟨_, rfl, by decide⟩, ⟨_, rfl, rfl⟩, ?_, rfl, ⟨_, rfl, rfl⟩, ?_, ⟨_, rfl, rfl⟩⟩
  · intro h; exact absurd (Except.ok.inj h) (by decide)
  · intro h; exact absurd h.1 (by decide)

/-- The empty and the longest block that a padding takes. -/
theorem witness_paddings : ([] : List Byte).length < 16 ∧ (hex 15 0).length < 16 := by decide

/-- Nothing held, and a full block held; the ends of the range of LEN. -/
theorem witness_AddBlockFoldsAndHolds :
    omac.keySet = true ∧ IsCmac omac.mode ∧ 0 ≤ 16 ∧ 16 ≤ 16 ∧ (omac.lastValid = true → 16 ≤ omac.lastLen) ∧
    tmacFull.keySet = true ∧ IsCmac tmacFull.mode ∧ tmacFull.lastValid = true ∧ 16 ≤ tmacFull.lastLen :=
  ⟨rfl, .inl rfl, by decide, by decide, by decide, rfl, .inr rfl, rfl, by decide⟩

theorem witness_AddBlockAfterAShortBlockIsASequenceError :
    omacShort.keySet = true ∧ IsCmac omacShort.mode ∧ 16 ≤ 16 ∧ omacShort.lastValid = true ∧ omacShort.lastLen < 16 :=
  ⟨rfl, .inl rfl, by decide, rfl, by decide⟩

/-- A short and a full held block. -/
theorem witness_FinalizeWritesTheTag :
    (omacShort.keySet = true ∧ omacShort.mode = .omac ∧ omacShort.lastLen ≤ 16) ∧
    (tmacFull.keySet = true ∧ tmacFull.mode = .tmac ∧ tmacFull.lastLen ≤ 16) := by decide

/-- A COMPUTE of the empty message in TMAC mode and of 17 bytes in OMAC mode, with a fresh core. -/
theorem witness_ComputeReadsTheCmacTag :
    let at0 := feedMessage .tmac [] ++ command .finalize ++ readTag .tmac
    let at17 := feedMessage .omac (hex 17 0) ++ command .finalize ++ readTag .omac
    let t := withHost at0 { omac with mode := .tmac }
    let o := withHost at17 omac
    (IsCmac .tmac ∧ t.mode = .tmac ∧ t.keySet = true ∧ t.lastValid = false ∧ t.cache = zeros 16 ∧ t.busy = false ∧
      ∃ actions, compute .tmac [] = some actions ∧ t.host = actions ++ []) ∧
    (IsCmac .omac ∧ o.mode = .omac ∧ o.keySet = true ∧ o.lastValid = false ∧ o.cache = zeros 16 ∧ o.busy = false ∧
      ∃ actions, compute .omac (hex 17 0) = some actions ∧ o.host = actions ++ []) :=
  ⟨⟨.inr rfl, rfl, rfl, rfl, by decide, rfl, _, rfl, (List.append_nil _).symm⟩,
    ⟨.inl rfl, rfl, rfl, rfl, by decide, rfl, _, rfl, (List.append_nil _).symm⟩⟩

/-- The splits of the empty message, of 16 and 17 bytes, for CmacOfAWholeMessage and TmacIsTheFirstHalfOfOmac. -/
theorem witness_IsSplit :
    IsSplit [] [[]] ∧ IsSplit (hex 16 5) [hex 16 5] ∧ IsSplit (hex 16 5 ++ [7#8]) [hex 16 5, [7#8]] ∧
    hex 16 5 ≠ [] ∧ (hex 16 5).length % 16 = 0 := by
  unfold IsSplit; decide

/-- A message cut before its empty rest, one cut before its first block, and one cut after one block. -/
theorem witness_StreamingGivesTheSameTag :
    let block := hex 16 5
    (∀ b ∈ [block], b.length = 16) ∧ [block].flatten = block ∧ IsSplit [] [[]] ∧ IsSplit (block ++ []) [block] ∧
    (∀ b ∈ ([] : List (List Byte)), b.length = 16) ∧ IsSplit ([] ++ []) [[]] ∧
    IsSplit [7#8] [[7#8]] ∧ IsSplit (block ++ [7#8]) [block, [7#8]] := by
  unfold IsSplit; decide

theorem witness_AddBlockFeedsTheInnerHash :
    hmac.keySet = true ∧ hmac.mode = .hmac ∧ 0 ≤ 64 ∧ 64 ≤ 64 ∧ hmac.inner = some (seedInner (hmacKey keyed)) ∧
    hmac.outer = some (seedOuter (hmacKey keyed)) := ⟨rfl, rfl, by decide, by decide, rfl, rfl⟩

theorem witness_ConstantTimeComparisonIsEquality : (hex 32 0).length = (hex 32 1).length := by decide

/-- A message of 70 bytes in chunks of 64 and 6 (V4.8's split). -/
theorem witness_HmacOfAWholeMessage : ∀ d ∈ [hex 64 0, hex 6 0], d.length ≤ 64 := by decide

/-- With `witness_inv_omacShort` and `witness_inv_hmac` also for SecondFinalizeTagsTheEmptyMessage. -/
theorem witness_VerifyComparesTheTagOfFinalize :
    (omacShort.keySet = true ∧ omacShort.mode ≠ .none) ∧ (hmac.keySet = true ∧ hmac.mode ≠ .none) := by decide

/-- SET_KEY of a shorter key changes KEYLEN. -/
theorem witness_OnlySetKeyWritesTheKey :
    NextState (step (running 0x00000101#32 1 [.wait] omac)) (fun t => t.keyLen ≠ omac.keyLen) := ⟨_, rfl, by decide⟩

theorem witness_OnlyFinalizeWritesTheTag :
    NextState (step (running 0x00000004#32 1 [.wait] omac)) (fun t => t.tagLen ≠ omac.tagLen) :=
  ⟨_, rfl, by simp [omacTag, omac, keyed, State.reset]⟩

theorem witness_OnlySetupCommandsWriteMode :
    NextState (step (running 0x00000022#32 1 [.wait] omac)) (fun t => t.mode ≠ omac.mode) := ⟨_, rfl, by decide⟩

theorem witness_OnlyCompletionWritesErr :
    NextState (step (running 0x00000000#32 1 [.wait] omac)) (fun t => t.err ≠ omac.err) := ⟨_, rfl, by decide⟩

/-- A reset during a command. -/
theorem witness_ResetInputGivesTheResetState :
    (running 0x00000004#32 6 [.reset, .wait] omac).host = .reset :: [.wait] ∧
    (running 0x00000004#32 6 [.reset, .wait] omac).busy = true := ⟨rfl, rfl⟩

theorem witness_AfterResetOnlySetKeyRuns : ∀ len, Instr.verify ≠ .setKey len := by simp

theorem witness_StepKeepsInv :
    Inv omacShort ∧ NextState (step (withHost [.read 0 .word 0x08#8] omacShort)) (fun t => t.reads = [0x0010008B#32]) :=
  ⟨witness_inv_omacShort, ⟨_, rfl, by decide⟩⟩

theorem witness_StepKeepsSeeded :
    Seeded hmac ∧ NextState (step (withHost [.wait] hmac)) (fun t => t.host = []) :=
  ⟨witness_seeded_hmac, ⟨_, rfl, rfl⟩⟩

/-- A run of two steps from reset in which the host issues SET_KEY and waits. -/
theorem witness_ReachableStatesMeetTheRule :
    NextState (run 2 { State.reset with host := [.write 0 .word 0x00#8 0x00001001#32, .wait] }) (fun t => t.keySet = true) :=
  ⟨_, rfl, rfl⟩

end Sys2Proof.Tests
end

section
/-! What a command leaves when it completes: one inversion for all seven commands, and the registers each command leaves
alone. -/

namespace Sys2Proof.Machine

open Sys2Proof.Claims

theorem cmacMode_ne {m : Mode} (hm : m = .omac ∨ m = .tmac) : m ≠ .none ∧ m ≠ .hmac := by
  obtain rfl | rfl := hm <;> decide

/-- `mac_result()` of a mode: the core is cleared with the tag of a CMAC mode, and seeded again with the tag of HMAC. -/
theorem macResult_cases {s s' : State} {tag : List Byte} (h : macResult s = some (tag, s')) :
    (s.mode = .omac ∧ tag = omacTag s ∧ s' = s.clearCmac) ∨
    (s.mode = .tmac ∧ tag = tmacTag s ∧ s' = s.clearCmac) ∨
    (s.mode = .hmac ∧ tag = hmacTag s ∧ s' = s.seedHmac) := by
  cases hm : s.mode <;> simp_all [macResult]

@[simp] theorem omacTag_length (s : State) : (omacTag s).length = 16 := by simp [omacTag]

@[simp] theorem tmacTag_length (s : State) : (tmacTag s).length = 8 := by simp [tmacTag]

@[simp] theorem hmacTag_length (s : State) : (hmacTag s).length = 32 := by simp [hmacTag]

/-- The ways the command `i` completes from `s`: with the error it reports (60_exceptions.md R161), which writes ERR and
ends BUSY only, or with the effect of its rule in 40_setup.md or 43_commands.md. `exec_completes` ties it to `exec`. -/
inductive Completes : Instr → State → State → Prop
  | error {i : Instr} {s : State} (e : ErrCode) (he : e ≠ .ok) (hexpected : expectedError i s = e) :
      Completes i s (s.complete e)
  | setKey {len : Nat} {s : State} (hpos : 1 ≤ len) (hle : len ≤ 64) :
      Completes (.setKey len) s
        ((((s.latchKey len).selectMode .none).clearCmac.setContexts Option.none Option.none).succeed false)
  | setCmac {i : Instr} {m : Mode} {s : State} (hi : setModeInstr m = some i) (hm : m = .omac ∨ m = .tmac)
      (hkey : s.keySet = true) (hlen : s.keyLen = 16) :
      Completes i s (((s.selectMode m).clearCmac.setContexts Option.none Option.none).succeed false)
  | setHmac {s : State} (hkey : s.keySet = true) :
      Completes .setModeHmac s ((s.selectMode .hmac).clearCmac.seedHmac.succeed false)
  | addCmac {len : Nat} {s : State} (hkey : s.keySet = true) (hm : s.mode = .omac ∨ s.mode = .tmac) (hle : len ≤ 16)
      (hfull : s.lastValid = true → 16 ≤ s.lastLen) :
      Completes (.addBlock len) s ((s.cmacAdd (dinBytes len s)).succeed false)
  | addHmac {len : Nat} {s : State} (hkey : s.keySet = true) (hm : s.mode = .hmac) (hle : len ≤ 64) :
      Completes (.addBlock len) s ((s.hmacAdd (dinBytes len s)).succeed false)
  | finalize {tag : List Byte} {s s' : State} (hkey : s.keySet = true) (hmac : macResult s = some (tag, s')) :
      Completes .finalize s ((s'.writeTag tag).succeed false)
  | verify {tag : List Byte} {s s' : State} (hkey : s.keySet = true) (hmac : macResult s = some (tag, s')) :
      Completes .verify s (s'.succeed (ctEqual tag (expBytes tag.length s)))

theorem execSetKey_completes (len : Nat) (s : State) :
    ∃ t, execSetKey len s = .next t ∧ Completes (.setKey len) s t := by
  by_cases hlen : len = 0 ∨ 64 < len
  · exact ⟨_, by simp only [execSetKey, hlen, if_true, raiseError],
      .error .invalidKeyLength (by decide) (by simp [expectedError, hlen])⟩
  · exact ⟨_, by simp only [execSetKey, hlen, if_false], .setKey (by omega) (by omega)⟩

/-- The error that the SET_MODE of a CMAC mode reports. -/
theorem expectedError_setCmac {i : Instr} {m : Mode} (s : State) (hi : setModeInstr m = some i)
    (hm : m = .omac ∨ m = .tmac) :
    expectedError i s = if s.keySet = false then .keyNotSet else if s.keyLen ≠ 16 then .invalidKeyLength else .ok := by
  obtain rfl | rfl := hm <;> cases hi <;> rfl

theorem setCmacMode_completes {i : Instr} {m : Mode} (s : State) (hi : setModeInstr m = some i)
    (hm : m = .omac ∨ m = .tmac) : ∃ t, setCmacMode m s = .next t ∧ Completes i s t := by
  have hexpected := expectedError_setCmac s hi hm
  obtain ⟨hkey, h⟩ | ⟨hkey, hlen, h⟩ | ⟨hkey, hlen, h⟩ := setCmacMode_cases m s
  · exact ⟨_, h, .error .keyNotSet (by decide) (by simp [hexpected, hkey])⟩
  · exact ⟨_, h, .error .invalidKeyLength (by decide) (by simp [hexpected, hkey, hlen])⟩
  · exact ⟨_, h, .setCmac hi hm hkey hlen⟩

theorem setHmacMode_completes (s : State) : ∃ t, setHmacMode s = .next t ∧ Completes .setModeHmac s t := by
  obtain ⟨hkey, h⟩ | ⟨hkey, h⟩ := setHmacMode_cases s
  · exact ⟨_, h, .error .keyNotSet (by decide) (by simp [expectedError, hkey])⟩
  · exact ⟨_, h, .setHmac hkey⟩

theorem addCmac_completes (len : Nat) {s : State} (hkey : s.keySet = true) (hm : s.mode = .omac ∨ s.mode = .tmac) :
    ∃ t, addCmac len s = .next t ∧ Completes (.addBlock len) s t := by
  obtain ⟨hnone, hhmac⟩ := cmacMode_ne hm
  obtain ⟨hlen, h⟩ | ⟨hlen, hvalid, hshort, h⟩ | ⟨hle, hfull, h⟩ := addCmac_cases len s
  · exact ⟨_, h, .error .invalidDataLength (by decide) (by simp [expectedError, hkey, hnone, hhmac, hlen])⟩
  · exact ⟨_, h, .error .sequence (by decide)
      (by simp [expectedError, hkey, hnone, hhmac, Nat.not_lt.2 hlen, hvalid, hshort])⟩
  · exact ⟨_, h, .addCmac hkey hm hle hfull⟩

theorem addHmac_completes (len : Nat) {s : State} (hkey : s.keySet = true) (hm : s.mode = .hmac) :
    ∃ t, addHmac len s = .next t ∧ Completes (.addBlock len) s t := by
  obtain ⟨hlen, h⟩ | ⟨hle, h⟩ := addHmac_cases len s
  · exact ⟨_, h, .error .invalidDataLength (by decide) (by simp [expectedError, hkey, hm, hlen])⟩
  · exact ⟨_, h, .addHmac hkey hm hle⟩

theorem execAddBlock_completes (len : Nat) (s : State) :
    ∃ t, execAddBlock len s = .next t ∧ Completes (.addBlock len) s t := by
  unfold execAddBlock
  cases hkey : s.keySet with
  | false => exact ⟨_, rfl, .error .keyNotSet (by decide) (by simp [expectedError, hkey])⟩
  | true =>
    cases hm : s.mode with
    | none => exact ⟨_, rfl, .error .modeNotSet (by decide) (by simp [expectedError, hkey, hm])⟩
    | omac => simpa using addCmac_completes len hkey (.inl hm)
    | tmac => simpa using addCmac_completes len hkey (.inr hm)
    | hmac => simpa using addHmac_completes len hkey hm

theorem execFinalize_completes (s : State) : ∃ t, execFinalize s = .next t ∧ Completes .finalize s t := by
  unfold execFinalize
  cases hkey : s.keySet with
  | false => exact ⟨_, rfl, .error .keyNotSet (by decide) (by simp [expectedError, hkey])⟩
  | true =>
    cases hmac : macResult s with
    | none => exact ⟨_, rfl, .error .modeNotSet (by decide) (by simp [expectedError, hkey, (macResult_none s).1 hmac])⟩
    | some r => exact ⟨_, rfl, .finalize hkey hmac⟩

theorem execVerify_completes (s : State) : ∃ t, execVerify s = .next t ∧ Completes .verify s t := by
  unfold execVerify
  cases hkey : s.keySet with
  | false => exact ⟨_, rfl, .error .keyNotSet (by decide) (by simp [expectedError, hkey])⟩
  | true =>
    cases hmac : macResult s with
    | none => exact ⟨_, rfl, .error .modeNotSet (by decide) (by simp [expectedError, hkey, (macResult_none s).1 hmac])⟩
    | some r => exact ⟨_, rfl, .verify hkey hmac⟩

/-- Every command completes, in one of the ways listed (60_exceptions.md R169). -/
theorem exec_completes (i : Instr) (s : State) : ∃ t, exec i s = .next t ∧ Completes i s t := by
  cases i with
  | setKey len => exact execSetKey_completes len s
  | setModeOmac => exact setCmacMode_completes s rfl (.inl rfl)
  | setModeTmac => exact setCmacMode_completes s rfl (.inr rfl)
  | setModeHmac => exact setHmacMode_completes s
  | addBlock len => exact execAddBlock_completes len s
  | finalize => exact execFinalize_completes s
  | verify => exact execVerify_completes s

theorem completes_of_exec {i : Instr} {s t : State} (h : exec i s = .next t) : Completes i s t := by
  obtain ⟨u, hu, hc⟩ := exec_completes i s
  rw [h] at hu
  cases hu
  exact hc

/-! ### What a command leaves alone -/

/-- The tag computation touches the active core only. -/
theorem macResult_frame {s s' : State} {tag : List Byte} (h : macResult s = some (tag, s')) :
    s' = { s with
      cache := s'.cache, last := s'.last, lastLen := s'.lastLen, lastValid := s'.lastValid, inner := s'.inner,
      outer := s'.outer } := by
  obtain ⟨-, -, rfl⟩ | ⟨-, -, rfl⟩ | ⟨-, -, rfl⟩ := macResult_cases h <;> rfl

theorem Completes.buffers_eq {i : Instr} {s t : State} (h : Completes i s t) :
    t.keyIn = s.keyIn ∧ t.din = s.din ∧ t.exp = s.exp := by
  cases h with
  | setKey => simp
  | finalize _ hmac | verify _ hmac => rw [macResult_frame hmac]; exact ⟨rfl, rfl, rfl⟩
  | _ => exact ⟨rfl, rfl, rfl⟩

theorem Completes.key_eq {i : Instr} {s t : State} (h : Completes i s t) (hi : ∀ len, i ≠ .setKey len) :
    t.key = s.key ∧ t.keyLen = s.keyLen ∧ t.keySet = s.keySet := by
  cases h with
  | setKey => exact absurd rfl (hi _)
  | finalize _ hmac | verify _ hmac => rw [macResult_frame hmac]; exact ⟨rfl, rfl, rfl⟩
  | _ => exact ⟨rfl, rfl, rfl⟩

theorem Completes.tag_eq {i : Instr} {s t : State} (h : Completes i s t) (hi : i ≠ .finalize) :
    t.tag = s.tag ∧ t.tagLen = s.tagLen := by
  cases h with
  | finalize => exact absurd rfl hi
  | setKey => simp
  | verify _ hmac => rw [macResult_frame hmac]; exact ⟨rfl, rfl⟩
  | _ => exact ⟨rfl, rfl⟩

/-- A command that changes MODE is SET_KEY or the SET_MODE of the mode it changes to. -/
theorem Completes.mode_cases {i : Instr} {s t : State} (h : Completes i s t) :
    t.mode = s.mode ∨ (∃ len, i = .setKey len) ∨ setModeInstr t.mode = some i := by
  cases h with
  | setKey => exact .inr (.inl ⟨_, rfl⟩)
  | setCmac hi => exact .inr (.inr hi)
  | setHmac => exact .inr (.inr rfl)
  | finalize _ hmac | verify _ hmac => rw [macResult_frame hmac]; exact .inl rfl
  | _ => exact .inl rfl

/-- Settles O51: no way of completing touches a host buffer. -/
theorem noCommandWritesTheBuffers : Obligations.NoCommandWritesTheBuffers := by
  unfold Obligations.NoCommandWritesTheBuffers
  intro i s t h
  exact (completes_of_exec h).buffers_eq

end Sys2Proof.Machine
end

section
/-! One inversion of the step, and the rules over the whole machine that follow from it. -/

namespace Sys2Proof.Machine

open Sys2Proof.Claims

/-- `t` differs from `s` at most in what a host action other than a reset can write: the three buffers, OVR, and the
fields of a command in progress and of the host. -/
def AccessFrame (s t : State) : Prop :=
  t = { s with
    keyIn := t.keyIn, din := t.din, exp := t.exp, busy := t.busy, ovr := t.ovr, cmd := t.cmd,
    cyclesLeft := t.cyclesLeft, host := t.host, reads := t.reads }

theorem windowWrite_frame (off : BitVec 8) (v : Word) (s : State) : AccessFrame s (windowWrite off v s) := by
  unfold windowWrite AccessFrame
  cases regAt off <;> rfl

theorem AccessFrame.consume {s t : State} (rest : List HostAction) (h : AccessFrame s t) :
    AccessFrame s (t.consume rest) := by
  unfold AccessFrame at h ⊢
  rw [h]
  rfl

theorem latency_pos (w : Word) (s : State) : 1 ≤ latency w s := by
  unfold latency
  omega

/-- A write to an idle block leaves it idle with the command in progress as it was, or starts a command of at least one
cycle. -/
theorem windowWrite_busy (off : BitVec 8) (v : Word) {s : State} (hidle : s.busy = false) :
    ((windowWrite off v s).busy = false ∧ (windowWrite off v s).cmd = s.cmd ∧
        (windowWrite off v s).cyclesLeft = s.cyclesLeft) ∨
      ((windowWrite off v s).busy = true ∧ 1 ≤ (windowWrite off v s).cyclesLeft) := by
  unfold windowWrite
  cases regAt off with
  | cmd => exact .inr ⟨rfl, latency_pos v s⟩
  | _ => exact .inl ⟨hidle, rfl, rfl⟩

theorem completesBefore_eq_false {gap : Nat} {s : State} :
    completesBefore gap s = false ↔ ReachesNow gap s := by
  simp [completesBefore, ReachesNow]

theorem step_of_completing {s : State} (h : Completing s) : step s = runCommand s := by
  obtain ⟨hbusy, hhost⟩ := h
  unfold step hostStep
  cases hh : s.host with
  | nil => simp [hbusy]
  | cons a rest => cases a <;> simp_all [completesBefore]

/-- The ways a step answers `t`. `answers_of_step` ties it to `step`. -/
inductive Answers (s : State) : State → Prop
  /-- The reset input. -/
  | reset (rest : List HostAction) (hhost : s.host = .reset :: rest) : Answers s (s.assertReset rest)
  /-- The command in progress completes. -/
  | command {t : State} (i : Instr) (hc : Completing s) (hd : decode s.cmd = .ok i) (hx : Completes i s t) : Answers s t
  /-- An ILLEGAL word completes. -/
  | illegal (e : Illegal) (hc : Completing s) (hd : decode s.cmd = .error e) : Answers s (s.complete .illegalCmd)
  /-- An access that the block takes or drops, a wait that ends, or nothing to do. -/
  | access {t : State} (hc : ¬Completing s) (hframe : AccessFrame s t)
      (hidle : t.busy = false → s.busy = false ∧ t.cmd = s.cmd ∧ t.cyclesLeft ≤ s.cyclesLeft)
      (hrunning : t.busy = true → 1 ≤ t.cyclesLeft) : Answers s t

theorem step_of_nil {s : State} (hhost : s.host = []) (hbusy : s.busy = false) : step s = .next s := by
  simp [step, hostStep, hhost, hbusy]

theorem step_of_reset {s : State} {rest : List HostAction} (hhost : s.host = .reset :: rest) :
    step s = .next (s.assertReset rest) := by
  simp [step, hostStep, hhost]

theorem step_of_wait {s : State} {rest : List HostAction} (hhost : s.host = .wait :: rest) (hbusy : s.busy = false) :
    step s = .next (s.consume rest) := by
  simp [step, hostStep, hhost, hbusy]

theorem step_of_write {s : State} {gap : Nat} {width : Width} {off : BitVec 8} {v : Word} {rest : List HostAction}
    (hhost : s.host = .write gap width off v :: rest) (hnow : ReachesNow gap s) :
    step s = hostWrite gap width off v rest s := by
  simp [step, hostStep, hhost, completesBefore_eq_false.2 hnow]

theorem step_of_read {s : State} {gap : Nat} {width : Width} {off : BitVec 8} {rest : List HostAction}
    (hhost : s.host = .read gap width off :: rest) (hnow : ReachesNow gap s) :
    step s = hostRead gap width off rest s := by
  simp [step, hostStep, hhost, completesBefore_eq_false.2 hnow]

theorem answers_of_completing {s t : State} (hc : Completing s) (h : step s = .next t) : Answers s t := by
  rw [step_of_completing hc] at h
  obtain ⟨i, hd, hr⟩ | ⟨e, hd, hr⟩ := runCommand_cases s
  · exact .command i hc hd (completes_of_exec (hr.symm.trans h))
  · cases hr.symm.trans h
    exact .illegal e hc hd

/-- With no command in progress a wait ends and an empty list of actions holds the state. -/
theorem answers_of_consume (rest : List HostAction) {s : State} (hbusy : s.busy = false) :
    Answers s (s.consume rest) :=
  .access (by simp [Completing, hbusy]) rfl (fun _ => ⟨hbusy, rfl, le_rfl⟩) (fun h => absurd h (by simp [hbusy]))

theorem answers_of_hostWrite {gap : Nat} {width : Width} {off : BitVec 8} {v : Word} {rest : List HostAction}
    {s t : State} (hc : ¬Completing s) (hnow : ReachesNow gap s)
    (h : hostWrite gap width off v rest s = .next t) : Answers s t := by
  obtain ⟨-, hw⟩ | ⟨-, hbusy, hw⟩ | ⟨-, hbusy, hw⟩ := hostWrite_cases gap width off v rest s <;> cases hw.symm.trans h
  · exact .access hc rfl (fun h => absurd h (by simp [hbusy])) (fun _ => Nat.sub_pos_of_lt (hnow hbusy))
  · refine .access hc ((windowWrite_frame off v s).consume rest) (fun ht => ?_) (fun ht => ?_)
    · obtain ⟨-, hcmd, hcyc⟩ | ⟨hb, -⟩ := windowWrite_busy off v hbusy
      · exact ⟨hbusy, hcmd, hcyc.le⟩
      · exact absurd (hb.symm.trans ht) (by decide)
    · obtain ⟨hb, -⟩ | ⟨-, hcyc⟩ := windowWrite_busy off v hbusy
      · exact absurd (hb.symm.trans ht) (by decide)
      · exact hcyc

theorem answers_of_hostRead {gap : Nat} {width : Width} {off : BitVec 8} {rest : List HostAction} {s t : State}
    (hc : ¬Completing s) (hnow : ReachesNow gap s) (h : hostRead gap width off rest s = .next t) : Answers s t := by
  obtain ⟨-, hr⟩ | ⟨-, hr⟩ := hostRead_cases gap width off rest s <;> cases hr.symm.trans h
  exact .access hc rfl (fun hb => ⟨hb, rfl, Nat.sub_le _ _⟩) (fun hb => Nat.sub_pos_of_lt (hnow hb))

theorem answers_of_step {s t : State} (h : step s = .next t) : Answers s t := by
  by_cases hc : Completing s
  · exact answers_of_completing hc h
  cases hh : s.host with
  | nil =>
    have hbusy : s.busy = false := by simpa [Completing, hh] using hc
    cases (step_of_nil hh hbusy).symm.trans h
    exact answers_of_consume s.host hbusy
  | cons a rest =>
    cases a with
    | reset =>
      cases (step_of_reset hh).symm.trans h
      exact .reset rest hh
    | wait =>
      have hbusy : s.busy = false := by simpa [Completing, hh] using hc
      cases (step_of_wait hh hbusy).symm.trans h
      exact answers_of_consume rest hbusy
    | write gap width off v =>
      have hnow : ReachesNow gap s := by simpa [Completing, ReachesNow, hh] using hc
      exact answers_of_hostWrite hc hnow ((step_of_write hh hnow).symm.trans h)
    | read gap width off =>
      have hnow : ReachesNow gap s := by simpa [Completing, ReachesNow, hh] using hc
      exact answers_of_hostRead hc hnow ((step_of_read hh hnow).symm.trans h)

/-- What every step keeps, every run keeps. -/
theorem run_induction {P : State → Prop} (hstep : ∀ s t, P s → step s = .next t → P t) (n : Nat) {s t : State}
    (hs : P s) (h : run n s = .next t) : P t := by
  induction n generalizing s with
  | zero =>
    cases h
    exact hs
  | succ n ih =>
    rw [run] at h
    split at h
    case h_1 u hu => exact ih (hstep s u hs hu) h
    case h_2 => cases h
    case h_3 => cases h

/-! ### Which steps write which register -/

/-- Settles O48: an access writes no key register, and of the commands SET_KEY alone does. -/
theorem onlySetKeyWritesTheKey : Obligations.OnlySetKeyWritesTheKey := by
  unfold Obligations.OnlySetKeyWritesTheKey
  intro s t h hchanged
  cases answers_of_step h with
  | reset rest hhost => exact .inl ⟨rest, hhost⟩
  | command i hc hd hx =>
    by_cases hi : ∃ len, i = .setKey len
    · obtain ⟨len, rfl⟩ := hi
      exact .inr ⟨hc, len, hd⟩
    · obtain ⟨hkey, hlen, hset⟩ := hx.key_eq (not_exists.1 hi)
      simp [hkey, hlen, hset] at hchanged
  | illegal => simp at hchanged
  | access _ hframe =>
    rw [hframe] at hchanged
    simp at hchanged

/-- Settles O49: an access writes neither TAG nor TAGLEN, and of the commands FINALIZE alone does. -/
theorem onlyFinalizeWritesTheTag : Obligations.OnlyFinalizeWritesTheTag := by
  unfold Obligations.OnlyFinalizeWritesTheTag
  intro s t h hchanged
  cases answers_of_step h with
  | reset rest hhost => exact .inl ⟨rest, hhost⟩
  | command i hc hd hx =>
    by_cases hi : i = .finalize
    · exact .inr ⟨hc, hi ▸ hd⟩
    · obtain ⟨htag, hlen⟩ := hx.tag_eq hi
      simp [htag, hlen] at hchanged
  | illegal => simp at hchanged
  | access _ hframe =>
    rw [hframe] at hchanged
    simp at hchanged

/-- Settles O50: an access leaves MODE, and a command that changes it is one of the two setup commands. -/
theorem onlySetupCommandsWriteMode : Obligations.OnlySetupCommandsWriteMode := by
  unfold Obligations.OnlySetupCommandsWriteMode
  intro s t h hchanged
  cases answers_of_step h with
  | reset rest hhost => exact .inl ⟨rest, hhost⟩
  | command i hc hd hx =>
    obtain hsame | ⟨len, rfl⟩ | hset := hx.mode_cases
    · exact absurd hsame hchanged
    · exact .inr ⟨hc, .inl ⟨len, hd⟩⟩
    · exact .inr ⟨hc, .inr ⟨t.mode, i, hset, rfl, hd⟩⟩
  | illegal => exact absurd rfl hchanged
  | access _ hframe => exact absurd (by rw [hframe]) hchanged

/-! ### Reads -/

/-- What a read returns is a function of what `SameInView` compares. -/
theorem windowRead_congr {a b : State} (off : BitVec 8) (h : SameInView a b) : windowRead off a = windowRead off b := by
  obtain ⟨hset, hkeyLen, hmode, hlastLen, hvalid, hdin, hexp, htag, htagLen, hbusy, hmatched, hovr, herr⟩ := h
  unfold windowRead
  cases regAt off with
  | status => simp only [statusWord, htagLen, herr, hovr, hmatched, hbusy]
  | info => simp only [infoWord, hkeyLen, hlastLen, hvalid, hmode, hset]
  | din w => simp only [hdin]
  | exp w => simp only [hexp]
  | tag w => simp only [htag]
  | _ => rfl

theorem accessTaken_word {off : BitVec 8} (h : off.toNat % 4 = 0) : accessTaken .word off = true := by
  simp [accessTaken, h]

/-- An aligned word read that reaches the block is answered with the word of the window. -/
theorem step_of_word_read {s : State} {gap : Nat} {off : BitVec 8} {rest : List HostAction}
    (hhost : s.host = .read gap .word off :: rest) (hnow : ReachesNow gap s) (halign : off.toNat % 4 = 0) :
    step s = .next (((s.observe (windowRead off s)).elapse gap).consume rest) := by
  simp [step_of_read hhost hnow, hostRead, accessTaken_word halign]

/-- Settles O21: the word read is a function of the common view, which the read leaves as it is. -/
theorem secretsAreNotReadable : Obligations.SecretsAreNotReadable := by
  unfold Obligations.SecretsAreNotReadable
  intro a b gap off rest hview hnowA hnowB halign hhostA hhostB
  refine ⟨windowRead off a, _, _, step_of_word_read hhostA hnowA halign,
    step_of_word_read (hhostB.trans hhostA) hnowB halign, ?_, ?_, ?_⟩
  · simp
  · simp [windowRead_congr off hview]
  · simpa [SameInView] using hview

/-! ### The fields of STATUS and INFO -/

/-- The code that STATUS shows is that of R160. -/
theorem errBits_toNat (e : ErrCode) : (errBits e).toNat = codeOf e := by cases e <;> rfl

theorem status_flags (s : State) :
    (statusWord s).getLsbD 0 = s.busy ∧ (statusWord s).getLsbD 1 = s.matched ∧ (statusWord s).getLsbD 2 = s.ovr := by
  simp [statusWord]

theorem status_err (s : State) : (statusWord s).extractLsb' 4 3 = errBits s.err := by
  ext i hi
  interval_cases i <;> simp [statusWord]

theorem status_tagLen (s : State) : (statusWord s).extractLsb' 8 6 = BitVec.ofNat 6 s.tagLen := by
  ext i hi
  interval_cases i <;> simp [statusWord]

theorem status_reserved (s : State) :
    (statusWord s).getLsbD 3 = false ∧ (statusWord s).getLsbD 7 = false ∧ (statusWord s).extractLsb' 14 18 = 0#18 := by
  refine ⟨by simp [statusWord], by simp [statusWord], ?_⟩
  ext i hi
  interval_cases i <;> simp [statusWord]

/-- Settles O17: each field of STATUS stands in its bits, and a TAGLEN below 64 fits its field. -/
theorem statusShowsItsFields : Obligations.StatusShowsItsFields := by
  unfold Obligations.StatusShowsItsFields
  intro s htagLen
  obtain ⟨hbusy, hmatched, hovr⟩ := status_flags s
  obtain ⟨hbit3, hbit7, hhigh⟩ := status_reserved s
  have herr : ((statusWord s).extractLsb' 4 3).toNat = codeOf s.err := by rw [status_err, errBits_toNat]
  have hlen : ((statusWord s).extractLsb' 8 6).toNat = s.tagLen := by
    rw [status_tagLen, BitVec.toNat_ofNat, Nat.mod_eq_of_lt htagLen]
  exact ⟨hbusy, hmatched, hovr, hbit3, herr, hbit7, hlen, hhigh⟩

theorem info_flags (s : State) :
    (infoWord s).getLsbD 0 = s.keySet ∧ (infoWord s).getLsbD 3 = s.lastValid := by
  simp [infoWord]

theorem info_mode (s : State) : (infoWord s).extractLsb' 1 2 = modeBits s.mode := by
  ext i hi
  interval_cases i <;> simp [infoWord]

theorem info_lastLen (s : State) : (infoWord s).extractLsb' 4 5 = BitVec.ofNat 5 s.lastLen := by
  ext i hi
  interval_cases i <;> simp [infoWord]

theorem info_keyLen (s : State) : (infoWord s).extractLsb' 16 7 = BitVec.ofNat 7 s.keyLen := by
  ext i hi
  interval_cases i <;> simp [infoWord]

theorem info_reserved (s : State) :
    (infoWord s).extractLsb' 9 7 = 0#7 ∧ (infoWord s).extractLsb' 23 9 = 0#9 := by
  constructor
  · ext i hi
    interval_cases i <;> simp [infoWord]
  · ext i hi
    interval_cases i <;> simp [infoWord]

/-- Settles O18: each field of INFO stands in its bits, and KEYLEN and LAST_LEN fit theirs. -/
theorem infoShowsItsFields : Obligations.InfoShowsItsFields := by
  unfold Obligations.InfoShowsItsFields
  intro s hkeyLen hlastLen
  obtain ⟨hset, hvalid⟩ := info_flags s
  obtain ⟨hmid, hhigh⟩ := info_reserved s
  have hheld : ((infoWord s).extractLsb' 4 5).toNat = s.lastLen := by
    rw [info_lastLen, BitVec.toNat_ofNat, Nat.mod_eq_of_lt hlastLen]
  have hkey : ((infoWord s).extractLsb' 16 7).toNat = s.keyLen := by
    rw [info_keyLen, BitVec.toNat_ofNat, Nat.mod_eq_of_lt hkeyLen]
  refine ⟨hset, ?_, hvalid, hheld, hmid, hkey, hhigh⟩
  have hmode : ((infoWord s).extractLsb' 1 2).toNat = (modeBits s.mode).toNat := by rw [info_mode]
  refine hmode.trans ?_
  cases s.mode <;> rfl

end Sys2Proof.Machine
end

section
/-! The invariant of the state: one rule per state operation, then each command, the step and the run. -/

namespace Sys2Proof.Machine

open Sys2Proof.Claims

/-! ### One rule per state operation -/

/-- The end of a command leaves nothing in progress. -/
theorem Inv.complete {s : State} (h : Inv s) (e : ErrCode) : Inv (s.complete e) :=
  { h with
    idle := fun _ => ⟨rfl, rfl⟩
    running := fun hb => Bool.noConfusion hb }

/-- MATCH is no part of the invariant. -/
theorem Inv.succeed {s : State} (h : Inv s) (m : Bool) : Inv (s.succeed m) :=
  { h.complete .ok with }

/-- An access writes no register the clauses on the key, the core and the tag speak of. -/
theorem Inv.of_accessFrame {s t : State} (h : Inv s) (hframe : AccessFrame s t)
    (hidle : t.busy = false → t.cmd = 0#32 ∧ t.cyclesLeft = 0) (hrunning : t.busy = true → 1 ≤ t.cyclesLeft) : Inv t := by
  rw [hframe]
  exact { h with idle := hidle, running := hrunning }

theorem Inv.clearCmac {s : State} (h : Inv s) : Inv s.clearCmac :=
  { h with
    hmacMode := fun hm => ⟨rfl, rfl, (h.hmacMode hm).2.2⟩
    noMode := fun hm => ⟨rfl, rfl, (h.noMode hm).2.2⟩
    notHeld := fun _ => ⟨rfl, rfl⟩
    notChained := fun _ => rfl
    lastLen_le := Nat.zero_le 16
    last_tail := fun i _ => by simp }

/-- A key is latched only when no mode is set, since the CMAC modes fix its length (R37.2). -/
theorem Inv.latchKey {s : State} (h : Inv s) {len : Nat} (hpos : 1 ≤ len) (hle : len ≤ 64) (hm : s.mode = .none) :
    Inv (s.latchKey len) := by
  have htail : ∀ i : Fin 64, len ≤ i.val → (bytesOf 64 (firstBytes s.keyIn len))[i] = 0x00#8 := fun i hi => by
    simp [hi]
  unfold State.latchKey
  generalize bytesOf 64 (firstBytes s.keyIn len) = key at htail
  exact { h with
    unkeyed := fun hk => Bool.noConfusion hk
    keyed := fun _ => hpos
    keyLen_le := hle
    key_tail := htail
    cmacMode := fun hc => absurd hm (cmacMode_ne hc).1 }

/-- The core is started afresh in a mode, with the contexts that mode has. -/
theorem Inv.startCore {s : State} (h : Inv s) {m : Mode} {i o : Option HCtx}
    (hkey : s.keySet = false → m = .none)
    (hcmac : m = .omac ∨ m = .tmac → s.keyLen = 16)
    (hnone : m ≠ .hmac → i = Option.none ∧ o = Option.none)
    (hsome : m = .hmac → i.isSome = true ∧ o.isSome = true) :
    Inv ((s.selectMode m).clearCmac.setContexts i o) :=
  { h.clearCmac with
    unkeyed := fun hk => ⟨hkey hk, (h.unkeyed hk).2⟩
    cmacMode := fun hm => ⟨hcmac hm, hnone (cmacMode_ne hm).2⟩
    hmacMode := fun hm => ⟨rfl, rfl, hsome hm⟩
    noMode := fun hm => ⟨rfl, rfl, hnone (by simp [show m = .none from hm])⟩ }

/-- In HMAC mode both contexts may be replaced. -/
theorem Inv.setContexts {s : State} (h : Inv s) (hm : s.mode = .hmac) {i o : Option HCtx} (hi : i.isSome = true)
    (ho : o.isSome = true) : Inv (s.setContexts i o) := by
  obtain ⟨hcache, hvalid, -, -⟩ := h.hmacMode hm
  exact { h with
    cmacMode := fun hc => absurd hm (cmacMode_ne hc).2
    hmacMode := fun _ => ⟨hcache, hvalid, hi, ho⟩
    noMode := fun hn => by simp [hm] at hn }

/-- In a CMAC mode a block of at most 16 bytes may be held, whatever the chain value becomes. -/
theorem Inv.cmacAdd {s : State} (h : Inv s) (hm : s.mode = .omac ∨ s.mode = .tmac) {b : List Byte}
    (hb : b.length ≤ 16) : Inv (s.cmacAdd b) :=
  { h with
    hmacMode := fun hh => absurd hh (cmacMode_ne hm).2
    noMode := fun hn => absurd hn (cmacMode_ne hm).1
    notHeld := fun hv => Bool.noConfusion hv
    notChained := fun hv => Bool.noConfusion hv
    lastLen_le := hb
    last_tail := fun i hi => by
      have hi' : b.length ≤ i.val := hi
      simp [State.cmacAdd, hi'] }

/-- A tag of one of the lengths of R12 fills the register up with zeros. -/
theorem Inv.writeTag {s : State} (h : Inv s) {tag : List Byte}
    (hlen : tag.length = 8 ∨ tag.length = 16 ∨ tag.length = 32) : Inv (s.writeTag tag) := by
  have htail : ∀ i : Fin 32, tag.length ≤ i.val → (bytesOf 32 tag)[i] = 0x00#8 := fun i hi => by simp [hi]
  unfold State.writeTag
  generalize bytesOf 32 tag = padded at htail
  exact { h with tagLen_legal := .inr hlen, tag_tail := htail }

/-! ### Reset -/

theorem inv_reset : Inv State.reset := by constructor <;> decide

/-- The input and the record of reads are no part of the invariant. -/
theorem inv_reset_with (h : List HostAction) (r : List Word) : Inv { State.reset with host := h, reads := r } :=
  inv_reset.of_accessFrame rfl (fun _ => ⟨rfl, rfl⟩) (fun hb => Bool.noConfusion hb)

/-- Settles O56: the reset state has no key, no mode and nothing held. -/
theorem resetMeetsTheInvariants : Obligations.ResetMeetsTheInvariants := by
  unfold Obligations.ResetMeetsTheInvariants
  intro h r
  exact ⟨inv_reset_with h r, ⟨fun hm => Mode.noConfusion hm, fun hm => Mode.noConfusion hm⟩⟩

/-! ### Commands, the step and the run -/

/-- SET_KEY: the key may be latched after the core is cleared with no mode, as the fields are disjoint. -/
theorem Inv.setKey {s : State} (h : Inv s) {len : Nat} (hpos : 1 ≤ len) (hle : len ≤ 64) :
    Inv (((s.latchKey len).selectMode .none).clearCmac.setContexts Option.none Option.none) := by
  have hcleared : Inv ((s.selectMode .none).clearCmac.setContexts Option.none Option.none) :=
    h.startCore (fun _ => rfl) (by simp) (fun _ => ⟨rfl, rfl⟩) (by simp)
  exact hcleared.latchKey hpos hle rfl

/-- The fresh core that `mac_result()` leaves. -/
theorem Inv.macResult {s s' : State} {tag : List Byte} (h : Inv s) (hmac : macResult s = some (tag, s')) : Inv s' := by
  obtain ⟨-, -, rfl⟩ | ⟨-, -, rfl⟩ | ⟨hm, -, rfl⟩ := macResult_cases hmac
  · exact h.clearCmac
  · exact h.clearCmac
  · exact h.setContexts hm rfl rfl

theorem macResult_length {s s' : State} {tag : List Byte} (hmac : macResult s = some (tag, s')) :
    tag.length = 8 ∨ tag.length = 16 ∨ tag.length = 32 := by
  obtain ⟨-, rfl, -⟩ | ⟨-, rfl, -⟩ | ⟨-, rfl, -⟩ := macResult_cases hmac <;> simp

theorem Inv.completes {i : Instr} {s t : State} (h : Inv s) (hx : Completes i s t) : Inv t := by
  cases hx with
  | error e => exact h.complete e
  | setKey hpos hle => exact (h.setKey hpos hle).succeed false
  | setCmac _ hm hkey hlen =>
    refine Inv.succeed (h.startCore (fun hk => ?_) (fun _ => hlen) (fun _ => ⟨rfl, rfl⟩) ?_) false
    · simp [hkey] at hk
    · exact fun hm' => absurd hm' (cmacMode_ne hm).2
  | setHmac hkey =>
    refine Inv.succeed (h.startCore (fun hk => ?_) (by simp) (by simp) (fun _ => ⟨rfl, rfl⟩)) false
    simp [hkey] at hk
  | addCmac _ hm hle => exact (h.cmacAdd hm (by simp [dinBytes, hle])).succeed false
  | addHmac _ hm =>
    obtain ⟨-, -, -, houter⟩ := h.hmacMode hm
    exact (h.setContexts hm rfl houter).succeed false
  | finalize _ hmac => exact ((h.macResult hmac).writeTag (macResult_length hmac)).succeed false
  | verify _ hmac => exact (h.macResult hmac).succeed _

/-- Settles O57: a reset starts again from the reset state, a command keeps the invariant by its own rules, and an access
writes no register the invariant speaks of and keeps the count of cycles sound. -/
theorem stepKeepsInv : Obligations.StepKeepsInv := by
  unfold Obligations.StepKeepsInv
  intro s t hinv h
  cases answers_of_step h with
  | reset rest => exact inv_reset_with rest s.reads
  | command i _ _ hx => exact hinv.completes hx
  | illegal => exact hinv.complete .illegalCmd
  | access _ hframe hidle hrunning =>
    refine hinv.of_accessFrame hframe (fun hb => ?_) hrunning
    obtain ⟨hbusy, hcmd, hcycles⟩ := hidle hb
    obtain ⟨hcmd0, hcycles0⟩ := hinv.idle hbusy
    exact ⟨hcmd.trans hcmd0, by omega⟩

theorem zeros_eq_repeatByte (n : Nat) : zeros n = repeatByte n 0x00#8 := by
  ext i hi
  simp [zeros]

/-- Settles O59: the clauses are those of `Inv`, which holds at reset and which every step keeps. -/
theorem reachableStatesMeetTheRule : Obligations.ReachableStatesMeetTheRule := by
  unfold Obligations.ReachableStatesMeetTheRule
  intro n h t hrun
  have hinv : Inv t := run_induction stepKeepsInv n (inv_reset_with h []) hrun
  simp only [zeros_eq_repeatByte]
  refine ⟨fun hk => (hinv.unkeyed hk).1, hinv.cmacMode, fun hm => ?_, hinv.noMode, hinv.notHeld, fun hc => ?_⟩
  · simpa [Option.isSome_iff_ne_none] using hinv.hmacMode hm
  · cases hb : t.busy with
    | false => rfl
    | true => exact absurd hc (Nat.ne_of_gt (hinv.running hb))

end Sys2Proof.Machine
end

section
/-! The register window: the map of its offsets, the bytes of a word, what the host's reads and writes of one word do, and
which of its accesses are faults (20_memory.md). -/

namespace Sys2Proof.Machine

open Sys2Proof.Claims

/-! ### The map -/

section

variable {off : BitVec 8} {s : State}

theorem regAt_info (hlo : 0x08 ≤ off.toNat) (hhi : off.toNat < 0x0C) : regAt off = .info := by
  simp (disch := omega) only [regAt, if_pos, if_neg]

theorem regAt_reserved (hlo : 0x0C ≤ off.toNat) (hhi : off.toNat < 0x40) : regAt off = .reserved := by
  simp (disch := omega) only [regAt, if_pos, if_neg]

theorem regAt_keyIn (hlo : 0x40 ≤ off.toNat) (hhi : off.toNat < 0x80) :
    regAt off = .keyIn ((off.toNat - 0x40) / 4) := by
  simp (disch := omega) only [regAt, if_pos, if_neg]

theorem regAt_din (hlo : 0x80 ≤ off.toNat) (hhi : off.toNat < 0xC0) : regAt off = .din ((off.toNat - 0x80) / 4) := by
  simp (disch := omega) only [regAt, if_pos, if_neg]

theorem regAt_exp (hlo : 0xC0 ≤ off.toNat) (hhi : off.toNat < 0xE0) : regAt off = .exp ((off.toNat - 0xC0) / 4) := by
  simp (disch := omega) only [regAt, if_pos, if_neg]

theorem regAt_tag (hlo : 0xE0 ≤ off.toNat) : regAt off = .tag ((off.toNat - 0xE0) / 4) := by
  simp (disch := omega) only [regAt, if_neg]

theorem windowRead_din (hlo : 0x80 ≤ off.toNat) (hhi : off.toNat < 0xC0) :
    windowRead off s = wordAt s.din.toList ((off.toNat - 0x80) / 4) := by
  simp only [windowRead, regAt_din hlo hhi]

theorem windowRead_exp (hlo : 0xC0 ≤ off.toNat) (hhi : off.toNat < 0xE0) :
    windowRead off s = wordAt s.exp.toList ((off.toNat - 0xC0) / 4) := by
  simp only [windowRead, regAt_exp hlo hhi]

theorem windowRead_tag (hlo : 0xE0 ≤ off.toNat) :
    windowRead off s = wordAt s.tag.toList ((off.toNat - 0xE0) / 4) := by
  simp only [windowRead, regAt_tag hlo]

/-- CMD, KEY_IN and the reserved offsets read 0 (R52). -/
theorem windowRead_zero (h : off = 0x00#8 ∨ (0x0C ≤ off.toNat ∧ off.toNat < 0x80)) : windowRead off s = 0#32 := by
  obtain rfl | ⟨hlo, hhi⟩ := h
  · rfl
  · by_cases hr : off.toNat < 0x40
    · simp only [windowRead, regAt_reserved hlo hr]
    · simp only [windowRead, regAt_keyIn (Nat.le_of_not_lt hr) hhi]

theorem windowWrite_keyIn (v : Word) (hlo : 0x40 ≤ off.toNat) (hhi : off.toNat < 0x80) :
    windowWrite off v s = { s with keyIn := putWord s.keyIn ((off.toNat - 0x40) / 4) v } := by
  simp only [windowWrite, regAt_keyIn hlo hhi]

theorem windowWrite_din (v : Word) (hlo : 0x80 ≤ off.toNat) (hhi : off.toNat < 0xC0) :
    windowWrite off v s = { s with din := putWord s.din ((off.toNat - 0x80) / 4) v } := by
  simp only [windowWrite, regAt_din hlo hhi]

theorem windowWrite_exp (v : Word) (hlo : 0xC0 ≤ off.toNat) (hhi : off.toNat < 0xE0) :
    windowWrite off v s = { s with exp := putWord s.exp ((off.toNat - 0xC0) / 4) v } := by
  simp only [windowWrite, regAt_exp hlo hhi]

/-- INFO, TAG and the reserved offsets ignore a write (R57). -/
theorem windowWrite_ignored (v : Word) (h : (0x08 ≤ off.toNat ∧ off.toNat < 0x40) ∨ 0xE0 ≤ off.toNat) :
    windowWrite off v s = s := by
  obtain ⟨hlo, hhi⟩ | hlo := h
  · by_cases hi : off.toNat < 0x0C
    · simp only [windowWrite, regAt_info hlo hi]
    · simp only [windowWrite, regAt_reserved (Nat.le_of_not_lt hi) hhi]
  · simp only [windowWrite, regAt_tag hlo]

end

/-! ### The bytes of a word -/

theorem wordOfLanes_eq_append (b0 b1 b2 b3 : Byte) : wordOfLanes b0 b1 b2 b3 = b3 ++ b2 ++ b1 ++ b0 := by
  refine BitVec.eq_of_getLsbD_eq fun i hi => ?_
  rw [BitVec.getLsbD_append, BitVec.getLsbD_append, BitVec.getLsbD_append]
  interval_cases i <;> simp [wordOfLanes]

theorem toNat_append_eq_add {n m : Nat} (x : BitVec n) (y : BitVec m) :
    (x ++ y).toNat = x.toNat * 2 ^ m + y.toNat := by
  rw [BitVec.toNat_append, ← Nat.shiftLeft_add_eq_or_of_lt y.isLt, Nat.shiftLeft_eq]

theorem wordOfLanes_toNat (b0 b1 b2 b3 : Byte) :
    (wordOfLanes b0 b1 b2 b3).toNat = b0.toNat + b1.toNat * 2 ^ 8 + b2.toNat * 2 ^ 16 + b3.toNat * 2 ^ 24 := by
  rw [wordOfLanes_eq_append, toNat_append_eq_add, toNat_append_eq_add, toNat_append_eq_add]
  omega

/-- The four lanes of a word make the word. -/
theorem wordOfLanes_laneByte (v : Word) :
    wordOfLanes (laneByte v 0) (laneByte v 1) (laneByte v 2) (laneByte v 3) = v := by
  ext i hi
  interval_cases i <;> simp [wordOfLanes, laneByte]

theorem byteAt_toList {n : Nat} (B : Bytes n) (i : Nat) (h : i < n) : byteAt B.toList i = B[i] := by
  simp [byteAt, h]

theorem wordAt_toList {n : Nat} (B : Bytes n) (w : Nat) (h : 4 * w + 3 < n) :
    wordAt B.toList w = wordOfLanes B[4 * w] B[4 * w + 1] B[4 * w + 2] B[4 * w + 3] := by
  simp (disch := omega) only [wordAt, byteAt_toList]

/-- Word `w` of a buffer as a number, the byte at the lowest index the least significant (R54). -/
theorem wordAt_toNat {n : Nat} (B : Bytes n) (w : Nat) (h : 4 * w + 3 < n) :
    (wordAt B.toList w).toNat = B[4 * w].toNat + B[4 * w + 1].toNat * 2 ^ 8 + B[4 * w + 2].toNat * 2 ^ 16 +
      B[4 * w + 3].toNat * 2 ^ 24 := by
  rw [wordAt_toList B w h, wordOfLanes_toNat]

theorem putWord_getElem_lane {n : Nat} (B : Bytes n) (w k : Nat) (v : Word) (hk : k < 4) (h : 4 * w + k < n) :
    (putWord B w v)[4 * w + k] = laneByte v k := by
  simp [show (4 * w + k) / 4 = w by omega, show (4 * w + k) % 4 = k by omega]

theorem wordAt_putWord {n : Nat} (B : Bytes n) (w : Nat) (v : Word) (h : 4 * w + 3 < n) :
    wordAt (putWord B w v).toList w = v := by
  have hlane0 : (putWord B w v)[4 * w] = laneByte v 0 := putWord_getElem_lane B w 0 v (by decide) (by omega)
  rw [wordAt_toList _ w h, hlane0, putWord_getElem_lane B w 1 v (by decide), putWord_getElem_lane B w 2 v (by decide),
    putWord_getElem_lane B w 3 v (by decide), wordOfLanes_laneByte]

@[simp] theorem windowRead_observe (off : BitVec 8) (v : Word) (s : State) :
    windowRead off (s.observe v) = windowRead off s := rfl

@[simp] theorem windowRead_elapse (off : BitVec 8) (gap : Nat) (s : State) :
    windowRead off (s.elapse gap) = windowRead off s := rfl

@[simp] theorem windowRead_consume (off : BitVec 8) (rest : List HostAction) (s : State) :
    windowRead off (s.consume rest) = windowRead off s := rfl

@[simp] theorem windowWrite_reads (off : BitVec 8) (v : Word) (s : State) : (windowWrite off v s).reads = s.reads := by
  unfold windowWrite
  cases regAt off <;> rfl

/-- A write to DIN or EXP starts no command. -/
theorem windowWrite_busy_of_buffer {off : BitVec 8} (v : Word) (s : State) (hlo : 0x80 ≤ off.toNat)
    (hhi : off.toNat < 0xE0) : (windowWrite off v s).busy = s.busy := by
  by_cases hd : off.toNat < 0xC0
  · rw [windowWrite_din v hlo hd]
  · rw [windowWrite_exp v (Nat.le_of_not_lt hd) hhi]

/-- A word of DIN or EXP reads as what was written to it last. -/
theorem windowRead_windowWrite {off : BitVec 8} (v : Word) (s : State) (hlo : 0x80 ≤ off.toNat)
    (hhi : off.toNat < 0xE0) : windowRead off (windowWrite off v s) = v := by
  by_cases hd : off.toNat < 0xC0
  · rw [windowWrite_din v hlo hd, windowRead_din hlo hd, wordAt_putWord _ _ _ (by omega)]
  · have hd' := Nat.le_of_not_lt hd
    rw [windowWrite_exp v hd' hhi, windowRead_exp hd' hhi, wordAt_putWord _ _ _ (by omega)]

/-- Settles O16: each clause is a range of the map, and a buffer word is the sum of its four lanes. -/
theorem windowReadsFollowTheMap : Obligations.WindowReadsFollowTheMap := by
  unfold Obligations.WindowReadsFollowTheMap
  intro s off halign
  refine ⟨windowRead_zero, fun w hw => ?_, fun w hw => ?_, fun w hw => ?_⟩
  · have hword : (off.toNat - 0x80) / 4 = w.val := by omega
    rw [windowRead_din (by omega) (by omega), hword, wordAt_toNat]
  · have hword : (off.toNat - 0xC0) / 4 = w.val := by omega
    rw [windowRead_exp (by omega) (by omega), hword, wordAt_toNat]
  · have hword : (off.toNat - 0xE0) / 4 = w.val := by omega
    rw [windowRead_tag (by omega), hword, wordAt_toNat]

/-! ### Accesses of an idle block -/

theorem reachesNow_of_idle {s : State} (gap : Nat) (hidle : s.busy = false) : ReachesNow gap s := fun hbusy => by
  simp [hidle] at hbusy

/-- An aligned word write to an idle block takes its effect in the window. -/
theorem step_of_word_write {s : State} {gap : Nat} {off : BitVec 8} {v : Word} {rest : List HostAction}
    (hhost : s.host = .write gap .word off v :: rest) (hidle : s.busy = false) (halign : off.toNat % 4 = 0) :
    step s = .next ((windowWrite off v s).consume rest) := by
  simp [step_of_write hhost (reachesNow_of_idle gap hidle), hostWrite, accessTaken_word halign, hidle]

/-- Two steps that go on are a run of two. -/
theorem run_two {s t u : State} (hst : step s = .next t) (htu : step t = .next u) : run 2 s = .next u := by
  simp [run, hst, htu]

/-- Settles O14: each clause is a range of the map with the effect of a write there. -/
theorem hostWriteEffects : Obligations.HostWriteEffects := by
  unfold Obligations.HostWriteEffects
  intro s gap off v rest hidle halign hhost
  rw [step_of_word_write hhost hidle halign]
  refine ⟨?_, ?_, ?_, ?_, ?_, ?_, ?_⟩
  · rintro rfl
    exact ⟨latency v s, latency_pos v s, rfl⟩
  · rintro rfl
    have hovr : (s.ovr && !v.getLsbD 2) = if v.getLsbD 2 then false else s.ovr := by cases v.getLsbD 2 <;> simp
    rw [← hovr]
    rfl
  · intro h
    rw [windowWrite_ignored v (.inl h)]
    rfl
  · rintro ⟨hlo, hhi⟩
    rw [windowWrite_keyIn v hlo hhi]
    exact ⟨_, rfl, fun i => putWord_getElem ..⟩
  · rintro ⟨hlo, hhi⟩
    rw [windowWrite_din v hlo hhi]
    exact ⟨_, rfl, fun i => putWord_getElem ..⟩
  · rintro ⟨hlo, hhi⟩
    rw [windowWrite_exp v hlo hhi]
    exact ⟨_, rfl, fun i => putWord_getElem ..⟩
  · intro h
    rw [windowWrite_ignored v (.inr h)]
    rfl

/-- Settles O15: a read changes nothing that the map shows, so the second returns the same word. -/
theorem readsHaveNoSideEffect : Obligations.ReadsHaveNoSideEffect := by
  unfold Obligations.ReadsHaveNoSideEffect
  intro s gap gap' off rest hidle halign hhost
  have hfirst := step_of_word_read hhost (reachesNow_of_idle gap hidle) halign
  refine ⟨_, s.cyclesLeft - gap - gap', hfirst, ?_, fun h => by simp [h]⟩
  rw [run_two hfirst (step_of_word_read rfl (reachesNow_of_idle gap' hidle) halign), windowRead_consume,
    windowRead_elapse, windowRead_observe]
  simp [State.observe, State.elapse, State.consume]

/-- Settles O19: the read comes back to the word that the write put into the buffer. -/
theorem bufferWordReadsBack : Obligations.BufferWordReadsBack := by
  unfold Obligations.BufferWordReadsBack
  intro s gap gap' off v rest hidle halign hlo hhi hhost
  have hbusy : ((windowWrite off v s).consume (.read gap' .word off :: rest)).busy = false := by
    simp [windowWrite_busy_of_buffer v s hlo hhi, hidle]
  have hread := step_of_word_read rfl (reachesNow_of_idle gap' hbusy) halign
  refine ⟨_, run_two (step_of_word_write hhost hidle halign) hread, ?_, rfl⟩
  simp [windowRead_windowWrite v s hlo hhi]

/-! ### Faults of the host program -/

theorem hostProgramFault_of_write {s : State} {gap : Nat} {width : Width} {off : BitVec 8} {v : Word}
    {rest : List HostAction} (hhost : s.host = .write gap width off v :: rest) (hnow : ReachesNow gap s) :
    hostProgramFault s = (!accessTaken width off || s.busy) := by
  simp [hostProgramFault, hhost, completesBefore_eq_false.2 hnow]

theorem hostProgramFault_of_read {s : State} {gap : Nat} {width : Width} {off : BitVec 8} {rest : List HostAction}
    (hhost : s.host = .read gap width off :: rest) (hnow : ReachesNow gap s) :
    hostProgramFault s = !accessTaken width off := by
  simp [hostProgramFault, hhost, completesBefore_eq_false.2 hnow]

/-- Settles O11: the block takes no such access, write or read. -/
theorem refusedAccessIsABusError : Obligations.RefusedAccessIsABusError := by
  unfold Obligations.RefusedAccessIsABusError
  intro s gap width off rest hnow hrefused hhost
  have htaken : accessTaken width off = false := by simpa [accessTaken, ← imp_iff_not_or] using hrefused
  obtain ⟨v, hhost⟩ | hhost := hhost
  · simp [hostProgramFault_of_write hhost hnow, step_of_write hhost hnow, hostWrite, htaken]
  · simp [hostProgramFault_of_read hhost hnow, step_of_read hhost hnow, hostRead, htaken]

theorem Completes.ovr_eq {i : Instr} {s t : State} (h : Completes i s t) : t.ovr = s.ovr := by
  cases h with
  | setKey => simp
  | finalize _ hmac | verify _ hmac => rw [macResult_frame hmac]; rfl
  | _ => rfl

/-- A write to the window may clear OVR and never sets it. -/
theorem windowWrite_ovr {off : BitVec 8} {v : Word} {s : State} :
    (windowWrite off v s).ovr = true → s.ovr = true := by
  unfold windowWrite
  cases regAt off with
  | status => simp +contextual
  | _ => exact id

/-- The completion of the command in progress leaves OVR. -/
theorem runCommand_next (s : State) : ∃ t, runCommand s = .next t ∧ t.ovr = s.ovr := by
  obtain ⟨i, -, hr⟩ | ⟨e, -, hr⟩ := runCommand_cases s
  · obtain ⟨t, ht, hx⟩ := exec_completes i s
    exact ⟨t, hr.trans ht, hx.ovr_eq⟩
  · exact ⟨_, hr, rfl⟩

/-- Settles O12: with no fault of the host program an access is taken and a write finds the block idle. -/
theorem faultlessStepGoesOn : Obligations.FaultlessStepGoesOn := by
  unfold Obligations.FaultlessStepGoesOn
  intro s hfault
  obtain ⟨-, -, h⟩ | ⟨rest, -, h⟩ | ⟨rest, -, -, h⟩ | ⟨-, -, h⟩ | ⟨gap, width, off, v, rest, hnow, hhost, h⟩ |
    ⟨gap, width, off, rest, hnow, hhost, h⟩ := step_cases s
  · exact ⟨_, h, id⟩
  · exact ⟨_, h, fun ht => Bool.noConfusion ht⟩
  · exact ⟨_, h, id⟩
  · obtain ⟨t, ht, hovr⟩ := runCommand_next s
    exact ⟨t, h.trans ht, hovr ▸ id⟩
  · rw [hostProgramFault_of_write hhost (completesBefore_eq_false.1 hnow)] at hfault
    obtain ⟨htaken, hidle⟩ : accessTaken width off = true ∧ s.busy = false := by simpa using hfault
    exact ⟨(windowWrite off v s).consume rest, h.trans (by simp [hostWrite, htaken, hidle]), windowWrite_ovr⟩
  · rw [hostProgramFault_of_read hhost (completesBefore_eq_false.1 hnow)] at hfault
    have htaken : accessTaken width off = true := by simpa using hfault
    exact ⟨((s.observe (windowRead off s)).elapse gap).consume rest, h.trans (by simp [hostRead, htaken]), id⟩

/-! ### The window's place in the host's address space -/

/-- An address selects the offset it lies above the base, when that is below 256. -/
theorem windowOffset_eq_some_iff {addr : Nat} {off : BitVec 8} :
    windowOffset addr = some off ↔ addr = hostAddress off := by
  have hoff := off.isLt
  unfold windowOffset hostAddress
  constructor
  · intro h
    split at h
    case isTrue hin =>
      cases h
      rw [BitVec.toNat_ofNat]
      omega
    case isFalse => cases h
  · rintro rfl
    simp [hoff]

/-- Settles O22: the window's base is a multiple of 256 and an offset is below 256. -/
theorem addressSelectsOffset : Obligations.AddressSelectsOffset := by
  unfold Obligations.AddressSelectsOffset
  intro off
  refine ⟨windowOffset_eq_some_iff.2 rfl, ?_, fun addr => windowOffset_eq_some_iff.1⟩
  have hoff := off.isLt
  unfold hostAddress Config.pBase
  omega

end Sys2Proof.Machine
end

section
/-! The command word: its fields, the decoder as the inverse of the encoder, the opcode map by match and mask, and the
step that runs a command (30_encoding.md R70 to R86). -/

namespace Sys2Proof

open Sys2Proof.Machine Sys2Proof.Claims

/-! ### The fields of a word -/

section

variable (len : BitVec 7) (mode : BitVec 2) (op : BitVec 4)

@[simp] theorem opField_assemble : opField (assemble len mode op) = op := by
  ext i hi
  interval_cases i <;> simp [opField, assemble]

@[simp] theorem modeField_assemble : modeField (assemble len mode op) = mode := by
  ext i hi
  interval_cases i <;> simp [modeField, assemble]

@[simp] theorem lenField_assemble : lenField (assemble len mode op) = len := by
  ext i hi
  interval_cases i <;> simp [lenField, assemble]

@[simp] theorem reservedLow_assemble : reservedLow (assemble len mode op) = 0#2 := by
  ext i hi
  interval_cases i <;> simp [reservedLow, assemble]

@[simp] theorem reservedHigh_assemble : reservedHigh (assemble len mode op) = 0#17 := by
  ext i hi
  interval_cases i <;> simp [reservedHigh, assemble]

end

theorem assemble_eq_append (len : BitVec 7) (mode : BitVec 2) (op : BitVec 4) :
    assemble len mode op = 0#17 ++ len ++ 0#2 ++ mode ++ op := by
  refine BitVec.eq_of_getLsbD_eq fun i hi => ?_
  rw [BitVec.getLsbD_append, BitVec.getLsbD_append, BitVec.getLsbD_append, BitVec.getLsbD_append]
  interval_cases i <;> simp [assemble]

theorem assemble_toNat (len : BitVec 7) (mode : BitVec 2) (op : BitVec 4) :
    (assemble len mode op).toNat = len.toNat * 2 ^ 8 + mode.toNat * 2 ^ 4 + op.toNat := by
  rw [assemble_eq_append, toNat_append_eq_add, toNat_append_eq_add, toNat_append_eq_add, toNat_append_eq_add]
  simp
  omega

/-- A word whose reserved bits are 0 is its three fields. -/
theorem assemble_fields {w : Word} (hlow : reservedLow w = 0#2) (hhigh : reservedHigh w = 0#17) :
    assemble (lenField w) (modeField w) (opField w) = w := by
  have hlow' := congrArg BitVec.toNat hlow
  have hhigh' := congrArg BitVec.toNat hhigh
  simp only [reservedLow, reservedHigh, BitVec.extractLsb'_toNat, Nat.shiftRight_eq_div_pow,
    BitVec.toNat_ofNat] at hlow' hhigh'
  apply BitVec.eq_of_toNat_eq
  simp only [assemble_toNat, lenField, modeField, opField, BitVec.extractLsb'_toNat, Nat.shiftRight_eq_div_pow]
  omega

theorem decode_encode {i : Instr} (h : WellFormed i) : decode (encode i) = .ok i := by
  cases i with
  | setKey len | addBlock len => simpa [decode, encode] using Nat.lt_succ_of_le h
  | _ => decide

/-- The list of R76 in the names of the fields. -/
theorem illegalWord_iff {w : Word} :
    IllegalWord w ↔
      (opField w).toNat = 0 ∨ 6 ≤ (opField w).toNat ∨ reservedLow w ≠ 0#2 ∨ reservedHigh w ≠ 0#17 ∨
        ((opField w).toNat = 2 ∧ (modeField w = 0#2 ∨ lenField w ≠ 0#7)) ∨
        (((opField w).toNat = 1 ∨ (opField w).toNat = 3) ∧ modeField w ≠ 0#2) ∨
        (((opField w).toNat = 4 ∨ (opField w).toNat = 5) ∧ (modeField w ≠ 0#2 ∨ lenField w ≠ 0#7)) := by
  simp [IllegalWord, opField, modeField, lenField, reservedLow, reservedHigh, ← BitVec.toNat_inj]

theorem not_illegalWord_encode (i : Instr) : ¬IllegalWord (encode i) := by
  rw [illegalWord_iff]
  cases i <;> simp [encode]

/-- The opcodes of R72, and the rest. -/
theorem opcode_cases (op : BitVec 4) :
    op = 1#4 ∨ op = 2#4 ∨ op = 3#4 ∨ op = 4#4 ∨ op = 5#4 ∨ op.toNat = 0 ∨ 6 ≤ op.toNat := by
  revert op
  decide

theorem mode_cases (mode : BitVec 2) : mode = 0#2 ∨ mode = 1#2 ∨ mode = 2#2 ∨ mode = 3#2 := by
  revert mode
  decide

theorem decode_of_reserved {w : Word} (h : reservedLow w ≠ 0 ∨ reservedHigh w ≠ 0) :
    decode w = .error .reservedBit := by
  rw [decode, if_pos h]

/-- The two answers of the decoder: it refuses a word of R76's list, and any other is the word of a well-formed
instruction. -/
def Decodes (w : Word) : Prop :=
  (IllegalWord w ∧ ∃ e, decode w = .error e) ∨ ∃ i, decode w = .ok i ∧ WellFormed i ∧ encode i = w

theorem decodes_of_encode {i : Instr} {w : Word} (h : WellFormed i) (hw : encode i = w) : Decodes w :=
  .inr ⟨i, hw ▸ decode_encode h, h, hw⟩

theorem decodes_of_error {w : Word} {e : Illegal} (hw : IllegalWord w) (he : decode w = .error e) : Decodes w :=
  .inl ⟨hw, e, he⟩

section

variable (len : BitVec 7) (mode : BitVec 2)

theorem toNat_lenFits : LenFits len.toNat := Nat.le_of_lt_succ len.isLt

theorem decodes_setKey : Decodes (assemble len mode 1#4) := by
  by_cases hmode : mode = 0#2
  · exact decodes_of_encode (i := .setKey len.toNat) (toNat_lenFits len) (by simp [encode, hmode])
  · exact decodes_of_error (e := .modeNotZero) (by simp [illegalWord_iff, hmode]) (by simp [decode, hmode])

theorem decodes_setMode : Decodes (assemble len mode 2#4) := by
  by_cases hlen : len = 0#7
  · subst hlen
    obtain rfl | rfl | rfl | rfl := mode_cases mode
    · exact decodes_of_error (e := .setModeNone) (by simp [illegalWord_iff]) (by decide)
    · exact decodes_of_encode (i := .setModeOmac) trivial rfl
    · exact decodes_of_encode (i := .setModeTmac) trivial rfl
    · exact decodes_of_encode (i := .setModeHmac) trivial rfl
  · exact decodes_of_error (e := .lenNotZero) (by simp [illegalWord_iff, hlen]) (by simp [decode, hlen])

theorem decodes_addBlock : Decodes (assemble len mode 3#4) := by
  by_cases hmode : mode = 0#2
  · exact decodes_of_encode (i := .addBlock len.toNat) (toNat_lenFits len) (by simp [encode, hmode])
  · exact decodes_of_error (e := .modeNotZero) (by simp [illegalWord_iff, hmode]) (by simp [decode, hmode])

/-- FINALIZE and VERIFY use neither MODE nor LEN. -/
theorem decodes_of_no_operand {i : Instr} {op : BitVec 4} (hop : op = 4#4 ∨ op = 5#4) (hi : WellFormed i)
    (henc : encode i = assemble 0#7 0#2 op) : Decodes (assemble len mode op) := by
  by_cases hmode : mode = 0#2
  · by_cases hlen : len = 0#7
    · exact decodes_of_encode hi (by rw [henc, hmode, hlen])
    · refine decodes_of_error (e := .lenNotZero) ?_ ?_ <;>
        obtain rfl | rfl := hop <;> simp [illegalWord_iff, decode, hmode, hlen]
  · refine decodes_of_error (e := .modeNotZero) ?_ ?_ <;>
      obtain rfl | rfl := hop <;> simp [illegalWord_iff, decode, hmode]

theorem decodes_of_noSuchOp {op : BitVec 4} (hop : op.toNat = 0 ∨ 6 ≤ op.toNat) : Decodes (assemble len mode op) := by
  refine decodes_of_error (e := .noSuchOp) ?_ ?_
  · rw [illegalWord_iff, opField_assemble]
    exact hop.imp_right .inl
  · simp only [decode]
    split
    next => simp_all
    next => split <;> simp_all

end

theorem decodes (w : Word) : Decodes w := by
  by_cases hres : reservedLow w ≠ 0 ∨ reservedHigh w ≠ 0
  · exact decodes_of_error (illegalWord_iff.2 (by tauto)) (decode_of_reserved hres)
  · obtain ⟨hlow, hhigh⟩ := not_or.1 hres
    rw [← assemble_fields (not_not.1 hlow) (not_not.1 hhigh)]
    generalize lenField w = len, modeField w = mode
    obtain hop | hop | hop | hop | hop | hop := opcode_cases (opField w)
    · exact hop ▸ decodes_setKey len mode
    · exact hop ▸ decodes_setMode len mode
    · exact hop ▸ decodes_addBlock len mode
    · exact decodes_of_no_operand len mode (i := .finalize) (.inl hop) trivial (hop ▸ rfl)
    · exact decodes_of_no_operand len mode (i := .verify) (.inr hop) trivial (hop ▸ rfl)
    · exact decodes_of_noSuchOp len mode hop

/-- Settles O1: the fields of the assembled word are the operands of the instruction. -/
theorem decodeInvertsEncode : Obligations.DecodeInvertsEncode := by
  unfold Obligations.DecodeInvertsEncode
  exact fun i => decode_encode

/-- The decoder gives an instruction exactly when the word is its encoding. -/
theorem decode_eq_ok_iff {w : Word} {i : Instr} : decode w = .ok i ↔ WellFormed i ∧ encode i = w := by
  constructor
  · intro h
    obtain ⟨-, e, he⟩ | ⟨j, hj, hwf, henc⟩ := decodes w
    · cases he.symm.trans h
    · cases hj.symm.trans h
      exact ⟨hwf, henc⟩
  · rintro ⟨hwf, rfl⟩
    exact decode_encode hwf

theorem decode_eq_error_iff {w : Word} : (∃ e, decode w = .error e) ↔ IllegalWord w := by
  obtain ⟨hw, he⟩ | ⟨i, hi, -, rfl⟩ := decodes w
  · exact iff_of_true he hw
  · exact iff_of_false (by simp [hi]) (not_illegalWord_encode i)

/-- Settles O2: it is half of `decode_eq_ok_iff`. -/
theorem encodeInvertsDecode : Obligations.EncodeInvertsDecode := by
  unfold Obligations.EncodeInvertsDecode
  exact fun w i => decode_eq_ok_iff.1

/-! ### The opcode map -/

/-- The rows with a LEN operand leave its field out of the mask. -/
theorem masked_eq_iff {w : Word} {mode : BitVec 2} {op : BitVec 4} :
    w &&& 0xFFFF80FF#32 = assemble 0#7 mode op ↔ assemble (lenField w) mode op = w := by
  constructor
  · intro h
    have hsplit : (w &&& 0xFFFF80FF#32) ||| (lenField w).setWidth 32 <<< 8 = w := by
      ext i hi
      interval_cases i <;> simp [lenField]
    calc assemble (lenField w) mode op
        = assemble 0#7 mode op ||| (lenField w).setWidth 32 <<< 8 := by
          simp [assemble, BitVec.or_comm, ← BitVec.or_assoc]
      _ = w := h ▸ hsplit
  · intro h
    rw [← Laws.assemble_masked (lenField w), h]

/-- A row with a LEN operand selects a word exactly when the word is the encoding of the row with its own LEN. -/
theorem encode_len_iff {w : Word} {n : Nat} {op : BitVec 4} :
    (LenFits n ∧ assemble (BitVec.ofNat 7 n) 0#2 op = w) ↔
      w &&& 0xFFFF80FF#32 = assemble 0#7 0#2 op ∧ n = (w.extractLsb' 8 7).toNat := by
  rw [masked_eq_iff]
  constructor
  · rintro ⟨hn, rfl⟩
    have hlen : n = (lenField (assemble (BitVec.ofNat 7 n) 0#2 op)).toNat := by
      rw [lenField_assemble, BitVec.toNat_ofNat, Nat.mod_eq_of_lt (Nat.lt_succ_of_le hn)]
    exact ⟨by rw [lenField_assemble], hlen⟩
  · rintro ⟨hw, rfl⟩
    exact ⟨toNat_lenFits (lenField w), by rw [BitVec.ofNat_toNat, BitVec.setWidth_eq]; exact hw⟩

theorem decode_eq_setKey_iff {w : Word} {n : Nat} :
    decode w = .ok (.setKey n) ↔ w &&& 0xFFFF80FF#32 = 0x00000001#32 ∧ n = (w.extractLsb' 8 7).toNat :=
  decode_eq_ok_iff.trans encode_len_iff

theorem decode_eq_addBlock_iff {w : Word} {n : Nat} :
    decode w = .ok (.addBlock n) ↔ w &&& 0xFFFF80FF#32 = 0x00000003#32 ∧ n = (w.extractLsb' 8 7).toNat :=
  decode_eq_ok_iff.trans encode_len_iff

/-- A row without operands selects its match alone. -/
theorem decode_eq_ok_iff_eq {w v : Word} {i : Instr} (hi : WellFormed i) (henc : encode i = v) :
    decode w = .ok i ↔ w = v := by
  rw [decode_eq_ok_iff, henc]
  exact ⟨fun h => h.2.symm, fun h => ⟨hi, h.symm⟩⟩

/-- Settles O3: a row selects exactly the encodings of its instruction, and an illegal word is one that decodes
to none. -/
theorem decodeFollowsMatchAndMask : Obligations.DecodeFollowsMatchAndMask := by
  unfold Obligations.DecodeFollowsMatchAndMask
  intro w
  have hmask : w &&& 0xFFFFFFFF#32 = w := BitVec.and_allOnes
  have homac : decode w = .ok .setModeOmac ↔ w = 0x00000012#32 := decode_eq_ok_iff_eq trivial rfl
  have htmac : decode w = .ok .setModeTmac ↔ w = 0x00000022#32 := decode_eq_ok_iff_eq trivial rfl
  have hhmac : decode w = .ok .setModeHmac ↔ w = 0x00000032#32 := decode_eq_ok_iff_eq trivial rfl
  have hfinalize : decode w = .ok .finalize ↔ w = 0x00000004#32 := decode_eq_ok_iff_eq trivial rfl
  have hverify : decode w = .ok .verify ↔ w = 0x00000005#32 := decode_eq_ok_iff_eq trivial rfl
  have hnone : (∃ e, decode w = .error e) ↔ ∀ i, decode w ≠ .ok i := by cases decode w <;> simp
  rw [hmask, hnone]
  refine ⟨fun n => decode_eq_setKey_iff, homac, htmac, hhmac, fun n => decode_eq_addBlock_iff, hfinalize, hverify, ?_⟩
  constructor
  · intro h
    exact ⟨fun hw => h _ (decode_eq_setKey_iff.2 ⟨hw, rfl⟩), fun hw => h _ (homac.2 hw), fun hw => h _ (htmac.2 hw),
      fun hw => h _ (hhmac.2 hw), fun hw => h _ (decode_eq_addBlock_iff.2 ⟨hw, rfl⟩), fun hw => h _ (hfinalize.2 hw),
      fun hw => h _ (hverify.2 hw)⟩
  · rintro ⟨hsetKey, hno, hnt, hnh, haddBlock, hnf, hnv⟩ i hi
    cases i with
    | setKey n => exact hsetKey (decode_eq_setKey_iff.1 hi).1
    | setModeOmac => exact hno (homac.1 hi)
    | setModeTmac => exact hnt (htmac.1 hi)
    | setModeHmac => exact hnh (hhmac.1 hi)
    | addBlock n => exact haddBlock (decode_eq_addBlock_iff.1 hi).1
    | finalize => exact hnf (hfinalize.1 hi)
    | verify => exact hnv (hverify.1 hi)

/-- Settles O4: R76's list is what the decoder refuses, and the completion of a refused word is
`raise Error(ILLEGAL_CMD)`. -/
theorem illegalWordsCompleteWithIllegalCmd : Obligations.IllegalWordsCompleteWithIllegalCmd := by
  unfold Obligations.IllegalWordsCompleteWithIllegalCmd
  intro w
  refine ⟨decode_eq_error_iff, fun s hw hcmd hc => ?_⟩
  obtain ⟨e, he⟩ := decode_eq_error_iff.2 hw
  rw [step_of_completing hc]
  simp only [runCommand, hcmd, he]
  rfl

/-- Settles O5: each of the fixed words is evaluated. -/
theorem workedEncodingsDecode : Obligations.WorkedEncodingsDecode := by
  unfold Obligations.WorkedEncodingsDecode
  decide

/-! ### The step that runs a command -/

theorem step_of_decode {s : State} {i : Instr} (hc : Completing s) (hd : decode s.cmd = .ok i) : step s = exec i s := by
  rw [step_of_completing hc, runCommand, hd]

/-- Settles O6. -/
theorem stepRunsTheDecodedCommand : Obligations.StepRunsTheDecodedCommand := by
  unfold Obligations.StepRunsTheDecodedCommand
  exact fun s i => step_of_decode

/-- A command word written to CMD while BUSY = 0 is issued. -/
theorem step_of_command_write {s : State} {gap : Nat} {v : Word} {rest : List HostAction} (hidle : s.busy = false)
    (hhost : s.host = .write gap .word 0x00#8 v :: rest) : step s = .next ((s.issue v).consume rest) :=
  step_of_word_write hhost hidle rfl

/-- Settles O7: the word is issued with its latency, and the wait lasts until its completion. -/
theorem writtenCommandRunsNext : Obligations.WrittenCommandRunsNext := by
  unfold Obligations.WrittenCommandRunsNext
  intro s i gap rest hwf hidle hhost
  exact ⟨latency (encode i) s, latency_pos _ s, step_of_command_write hidle hhost,
    step_of_decode ⟨rfl, trivial⟩ (decode_encode hwf)⟩

end Sys2Proof
end

section
/-! Runs of the host's programs through the window: the loads of the buffers (30_encoding.md R81). -/

namespace Sys2Proof.Machine

open Sys2Proof.Claims

/-! ### Runs -/

theorem run_add {a b : Nat} {s t : State} (h : run a s = .next t) : run (a + b) s = run b t := by
  induction a generalizing s with
  | zero =>
    cases h
    rw [Nat.zero_add]
  | succ a ih =>
    rw [Nat.add_right_comm, run]
    rw [run] at h
    split at h
    case h_1 u hu => exact ih h
    case h_2 => cases h
    case h_3 => cases h

theorem run_one {s t : State} (h : step s = .next t) : run 1 s = .next t := by
  simp [run, h]

theorem run_succ {n : Nat} {s t u : State} (h : run n s = .next t) (hstep : step t = .next u) :
    run (n + 1) s = .next u :=
  (run_add h).trans (run_one hstep)

/-! ### Loads -/

theorem laneByte_wordOfLanes (f : Nat → Byte) {k : Nat} (hk : k < 4) :
    laneByte (wordOfLanes (f 0) (f 1) (f 2) (f 3)) k = f k := by
  ext i hi
  interval_cases k <;> interval_cases i <;> simp [wordOfLanes, laneByte]

/-- Lane `k` of word `w` of a byte string is its byte `4w + k`. -/
theorem laneByte_wordAt (b : List Byte) (w : Nat) {k : Nat} (hk : k < 4) :
    laneByte (wordAt b w) k = byteAt b (4 * w + k) :=
  laneByte_wordOfLanes (fun j => byteAt b (4 * w + j)) hk

/-- The buffer after the writes of its words 0 to `k - 1` from the byte string `b`. -/
def putWords {n : Nat} (B : Bytes n) (b : List Byte) (k : Nat) : Bytes n :=
  match k with
  | 0 => B
  | k + 1 => putWord (putWords B b k) k (wordAt b k)

theorem putWords_getElem {n : Nat} (B : Bytes n) (b : List Byte) (k i : Nat) (h : i < n) :
    (putWords B b k)[i] = if i < 4 * k then byteAt b i else B[i] := by
  induction k with
  | zero => simp [putWords]
  | succ k ih =>
    rw [putWords, putWord_getElem, ih, laneByte_wordAt b k (Nat.mod_lt i (by decide))]
    by_cases hk : i / 4 = k
    · have hi : 4 * k + i % 4 = i := by omega
      have hlt : i < 4 * (k + 1) := by omega
      simp [hk, hi, hlt]
    · have hlt : i < 4 * (k + 1) ↔ i < 4 * k := by omega
      simp [hk, hlt]

/-- A buffer of `n` bytes at `base` in the window, as its place in an idle state: `put B h` is the state with the bytes
`B` in the buffer and the host about to do `h`. -/
structure IsBuffer (n base : Nat) (put : Bytes n → List HostAction → State) : Prop where
  base_mod : base % 4 = 0
  base_le : base + n ≤ 256
  idle : ∀ B h, (put B h).busy = false
  consume : ∀ B h h', (put B h).consume h' = put B h'
  write : ∀ (off : BitVec 8) (B : Bytes n) (h : List HostAction) (v : Word), base ≤ off.toNat →
    off.toNat < base + n → windowWrite off v (put B h) = put (putWord B ((off.toNat - base) / 4) v) h

theorem isBuffer_keyIn {s : State} (hidle : s.busy = false) :
    IsBuffer 64 0x40 fun B h => { s with keyIn := B, host := h } :=
  ⟨rfl, by decide, fun _ _ => hidle, fun _ _ _ => rfl, fun _ _ _ v hlo hhi => windowWrite_keyIn v hlo hhi⟩

theorem isBuffer_din {s : State} (hidle : s.busy = false) :
    IsBuffer 64 0x80 fun B h => { s with din := B, host := h } :=
  ⟨rfl, by decide, fun _ _ => hidle, fun _ _ _ => rfl, fun _ _ _ v hlo hhi => windowWrite_din v hlo hhi⟩

theorem isBuffer_exp {s : State} (hidle : s.busy = false) :
    IsBuffer 32 0xC0 fun B h => { s with exp := B, host := h } :=
  ⟨rfl, by decide, fun _ _ => hidle, fun _ _ _ => rfl, fun _ _ _ v hlo hhi => windowWrite_exp v hlo hhi⟩

section

variable {n base : Nat} {put : Bytes n → List HostAction → State}

theorem IsBuffer.step_sw (hput : IsBuffer n base put) (B : Bytes n) {w : Nat} (v : Word) (rest : List HostAction)
    (hw : 4 * w < n) : step (put B (sw (base + 4 * w) v :: rest)) = .next (put (putWord B w v) rest) := by
  obtain ⟨hmod, hbase, hidle, hconsume, hwrite⟩ := hput
  have hoff : (BitVec.ofNat 8 (base + 4 * w)).toNat = base + 4 * w := Nat.mod_eq_of_lt (by omega)
  have hword : (base + 4 * w - base) / 4 = w := by omega
  have hhost : (put B (sw (base + 4 * w) v :: rest)).host = sw (base + 4 * w) v :: rest := by
    rw [← hconsume B [], State.consume_host]
  rw [step_of_word_write hhost (hidle ..) (by omega), hwrite _ _ _ v (by omega) (by omega), hconsume, hoff, hword]

/-- The writes of a load run one step each. -/
theorem IsBuffer.run_loadAt (hput : IsBuffer n base put) (B : Bytes n) {b : List Byte} (rest : List HostAction)
    (hle : b.length ≤ n) :
    run (ceilDiv b.length 4) (put B (loadAt base b ++ rest)) =
      .next (put (putWords B b (ceilDiv b.length 4)) rest) := by
  have hall : ∀ k rest, 4 * k < n + 4 →
      run k (put B ((List.range k).map (fun w => sw (base + 4 * w) (wordAt b w)) ++ rest)) =
        .next (put (putWords B b k) rest) := by
    intro k
    induction k with
    | zero => exact fun _ _ => rfl
    | succ k ih =>
      intro rest hk
      rw [List.range_succ, List.map_append, List.append_assoc]
      exact run_succ (ih _ (by omega)) (hput.step_sw _ _ rest (by omega))
  exact hall _ rest (by unfold ceilDiv; omega)

end

/-- Settles O20: each load is the run of its writes, which fill the words of its buffer one after the other. -/
theorem loadsWriteTheBuffers : Obligations.LoadsWriteTheBuffers := by
  unfold Obligations.LoadsWriteTheBuffers
  intro s b rest hidle
  refine ⟨fun hle hhost => ?_, fun hle hhost => ?_, fun hle hhost => ?_⟩
  · have h := (isBuffer_keyIn hidle).run_loadAt s.keyIn rest hle
    rw [← loadKey, ← hhost] at h
    exact ⟨_, h, fun i => putWords_getElem ..⟩
  · have h := (isBuffer_din hidle).run_loadAt s.din rest hle
    rw [← loadDin, ← hhost] at h
    exact ⟨_, h, fun i => putWords_getElem ..⟩
  · have h := (isBuffer_exp hidle).run_loadAt s.exp rest hle
    rw [← loadExp, ← hhost] at h
    exact ⟨_, h, fun i => putWords_getElem ..⟩

end Sys2Proof.Machine
end

section
/-! The blocks of a message, as COMPUTE and VERIFYMAC feed them (30_encoding.md R84). -/

namespace Sys2Proof.Machine

open Sys2Proof.Claims

theorem ceilDiv_le_iff {n k c : Nat} (hk : 0 < k) : ceilDiv n k ≤ c ↔ n ≤ k * c := by
  rw [ceilDiv, ← Nat.lt_succ_iff, Nat.div_lt_iff_lt_mul hk, Nat.succ_mul, Nat.mul_comm c k]
  omega

@[simp] theorem chunks_length (k count : Nat) (d : List Byte) : (chunks k count d).length = count := by
  simp [chunks]

/-- The last block stands behind the others. -/
theorem chunks_succ (k count : Nat) (d : List Byte) :
    chunks k (count + 1) d = chunks k count d ++ [(d.drop (k * count)).take k] := by
  simp [chunks, List.range_succ]

/-- The blocks joined are the part of the message they cover. -/
theorem flatten_chunks (k count : Nat) (d : List Byte) : (chunks k count d).flatten = d.take (k * count) := by
  induction count with
  | zero => simp [chunks]
  | succ count ih => rw [chunks_succ, List.flatten_append, List.flatten_singleton, ih, ← List.take_add, Nat.mul_succ]

theorem length_le_of_mem_chunks {k count : Nat} {d b : List Byte} (hb : b ∈ chunks k count d) : b.length ≤ k := by
  obtain ⟨j, -, rfl⟩ := List.mem_map.1 hb
  exact List.length_take_le ..

/-- A block that begins inside the message is not empty. -/
theorem ne_nil_of_mem_chunks {k count : Nat} {d b : List Byte} (hk : 0 < k) (hb : b ∈ chunks k count d)
    (hlt : ∀ j < count, k * j < d.length) : b ≠ [] := by
  obtain ⟨j, hj, rfl⟩ := List.mem_map.1 hb
  have := hlt j (List.mem_range.1 hj)
  refine List.ne_nil_of_length_pos ?_
  rw [List.length_take, List.length_drop]
  omega

/-- Blocks that the message covers are full. -/
theorem length_eq_of_mem_chunks {k count : Nat} {d b : List Byte} (hb : b ∈ chunks k count d)
    (hle : k * count ≤ d.length) : b.length = k := by
  obtain ⟨j, hj, rfl⟩ := List.mem_map.1 hb
  have hmul : k * (j + 1) ≤ k * count := Nat.mul_le_mul_left k (List.mem_range.1 hj)
  rw [Nat.mul_succ] at hmul
  rw [List.length_take, List.length_drop]
  omega

/-- Every block but the last is full. -/
theorem length_eq_of_mem_dropLast_chunks {k count : Nat} {d b : List Byte} (hb : b ∈ (chunks k count d).dropLast)
    (hlt : ∀ j < count, k * j ≤ d.length) : b.length = k := by
  cases count with
  | zero => simp [chunks] at hb
  | succ count =>
    rw [chunks_succ, List.dropLast_concat] at hb
    exact length_eq_of_mem_chunks hb (hlt count count.lt_succ_self)

/-- A block before the `ceil(n/k)`-th begins inside the message. -/
theorem mul_lt_of_lt_ceilDiv {n k j : Nat} (hk : 0 < k) (hj : j < ceilDiv n k) : k * j < n :=
  Nat.lt_of_not_le fun h => Nat.not_le.2 hj ((ceilDiv_le_iff hk).2 h)

theorem messageBlocks_cmac {m : Mode} (hm : IsCmac m) (d : List Byte) :
    messageBlocks m d = chunks 16 (max 1 (ceilDiv d.length 16)) d := by
  obtain rfl | rfl := hm <;> rfl

/-- Each of the at least one block begins inside the message or is block 0. -/
theorem mul_lt_of_lt_max {n k j : Nat} (hk : 0 < k) (hj : j < max 1 (ceilDiv n k)) : j = 0 ∨ k * j < n :=
  (lt_max_iff.1 hj).imp (fun h => by omega) (mul_lt_of_lt_ceilDiv hk)

theorem isSplit_messageBlocks {m : Mode} (hm : IsCmac m) (d : List Byte) : IsSplit d (messageBlocks m d) := by
  rw [messageBlocks_cmac hm]
  have hpos : 0 < 16 := by decide
  have hbegin : ∀ j < max 1 (ceilDiv d.length 16), j = 0 ∨ 16 * j < d.length := fun _ => mul_lt_of_lt_max hpos
  refine ⟨?_, ?_, fun b hb => length_eq_of_mem_dropLast_chunks hb fun j hj => ?_, fun b hb => ?_⟩
  · rw [flatten_chunks, List.take_of_length_le ((ceilDiv_le_iff hpos).1 (le_max_right ..))]
  · exact List.ne_nil_of_length_pos (by rw [chunks_length]; omega)
  · have := hbegin j hj
    omega
  · have hmem := List.mem_of_mem_getLast? hb
    refine ⟨length_le_of_mem_chunks hmem, fun hnil => ?_⟩
    by_contra hd
    have hd := List.length_pos_iff.2 hd
    refine ne_nil_of_mem_chunks hpos hmem (fun j hj => ?_) hnil
    have := hbegin j hj
    omega

/-- Settles O36: the blocks are the windows of `k` bytes that begin inside the message, and block 0 in a CMAC mode. -/
theorem messageBlocksFollowTheRule : Obligations.MessageBlocksFollowTheRule := by
  unfold Obligations.MessageBlocksFollowTheRule
  refine ⟨fun m d hm => ⟨isSplit_messageBlocks hm d, ?_⟩, fun d => ?_⟩
  · rw [messageBlocks_cmac hm, chunks_length, ceilDiv]
  · have hpos : 0 < 64 := by decide
    have hbegin : ∀ j < ceilDiv d.length 64, 64 * j < d.length := fun _ => mul_lt_of_lt_ceilDiv hpos
    have hblocks : messageBlocks .hmac d = chunks 64 (ceilDiv d.length 64) d := rfl
    rw [hblocks]
    refine ⟨?_, by rw [chunks_length, ceilDiv], ?_, ?_⟩
    · rw [flatten_chunks, List.take_of_length_le ((ceilDiv_le_iff hpos).1 le_rfl)]
    · exact fun b hb => length_eq_of_mem_dropLast_chunks hb fun j hj => (hbegin j hj).le
    · exact fun b hb => ⟨ne_nil_of_mem_chunks hpos hb hbegin, length_le_of_mem_chunks hb⟩

end Sys2Proof.Machine
end

section
/-! COMPUTE in a CMAC mode: the accumulator as `cmac_msg` of the block held and the blocks to come (41_cmac_core.md
R122), and the run of the host's COMPUTE through the window (30_encoding.md R84). -/

namespace Sys2Proof.Machine

open Sys2Proof.Claims

/-! ### The accumulator -/

theorem cipherKey_eq_keyBlock (s : State) : cipherKey s = keyBlock s := by
  refine Vector.ext fun i hi => ?_
  simp [cipherKey, keyBlock, firstBytes, hi]

theorem xorBlock_eq_xorBytes (A B : Block) : xorBlock A B = xorBytes A B := rfl

theorem padIso_eq_padded (b : List Byte) : padIso b = padded .omac b := by
  ext i hi
  obtain h | h | h := lt_trichotomy i b.length
  · simp [padIso, padded, h, List.getElem?_append_left h]
  · simp [padIso, padded, h]
  · have hpast : [0x80#8][i - b.length]? = Option.none := List.getElem?_eq_none (Nat.sub_pos_of_lt h)
    simp [padIso, padded, h.not_gt, h.ne', List.getElem?_append_right h.le, hpast]

theorem padPkcs7_eq_padded {b : List Byte} (hb : b.length < 16) : padPkcs7 b = padded .tmac b := by
  ext i hi
  by_cases h : i < b.length
  · simp [padPkcs7, padded, h, List.getElem?_append_left h]
  · have hpad : i - b.length < 16 - b.length := by omega
    simp [padPkcs7, padded, h, List.getElem?_append_right (Nat.le_of_not_lt h), hpad]

theorem bytesOf_eq_padded {b : List Byte} (m : Mode) (hb : b.length = 16) : bytesOf 16 b = padded m b := by
  ext i hi
  simp [padded, hb, hi]

/-- The model's CMAC tag of a final block is that of R119, for a padding that agrees with R116 and R117. -/
theorem cmacTag_eq_cmacTagOf {pad : List Byte → Block} {m : Mode} (hpad : ∀ b, b.length < 16 → pad b = padded m b)
    (k c : Block) {b : List Byte} (hb : b.length ≤ 16) :
    cmacTag (Config.enc k) pad c b = cmacTagOf k b.length c (padded m b) := by
  unfold cmacTag cmacTagOf subkeys
  simp only [zeros_eq_repeatByte, xorBlock_eq_xorBytes]
  split
  case isTrue hfull => rw [bytesOf_eq_padded m hfull]
  case isFalse hshort => rw [hpad b (by omega)]

/-- The block held by the core, if any. -/
def heldBlocks (s : State) : List (List Byte) := if s.lastValid then [firstBytes s.last s.lastLen] else []

theorem cmacMsg_heldBlocks (k : Block) (m : Mode) (c : Block) (s : State) :
    cmacMsg k m c (heldBlocks s) = cmacTagOf k (finalBlock s).length c (padded m (finalBlock s)) := by
  unfold heldBlocks finalBlock
  cases s.lastValid <;> rfl

/-- `mac_result()` in a CMAC mode is `cmac_msg` of the block held, cut to the tag length of the mode. -/
theorem macResult_cmac {s : State} (hm : IsCmac s.mode) :
    macResult s =
      some (firstBytes (cmacMsg (keyBlock s) s.mode s.cache (heldBlocks s)) (tagBytes s.mode), s.clearCmac) := by
  have hlen : (finalBlock s).length ≤ 16 := by
    unfold finalBlock
    cases s.lastValid <;> simp
  rw [cmacMsg_heldBlocks]
  obtain hm | hm := hm
  · rw [hm, ← cmacTag_eq_cmacTagOf (fun b _ => padIso_eq_padded b) _ _ hlen, ← cipherKey_eq_keyBlock]
    simp [macResult, hm, omacTag, tagBytes, firstBytes, encWith, List.take_of_length_le]
  · rw [hm, ← cmacTag_eq_cmacTagOf (fun b => padPkcs7_eq_padded) _ _ hlen, ← cipherKey_eq_keyBlock]
    simp [macResult, hm, tmacTag, tagBytes, encWith]

theorem firstBytes_bytesOf {n : Nat} {b : List Byte} (hb : b.length ≤ n) : firstBytes (bytesOf n b) b.length = b := by
  refine List.ext_getElem (by simp [hb]) fun i _ hi => ?_
  simp [firstBytes, hi]

theorem heldBlocks_cmacAdd (s : State) {b : List Byte} (hb : b.length ≤ 16) : heldBlocks (s.cmacAdd b) = [b] := by
  simp [heldBlocks, State.cmacAdd, State.holdBlock, firstBytes_bytesOf hb]

/-- A full block as a block is the block. -/
theorem blockOf_firstBytes (B : Block) : blockOf (firstBytes B 16) = B := by
  refine Vector.ext fun i hi => ?_
  simp [blockOf, firstBytes]

/-- `cmac_add(b)` folds a full held block as `cmac_msg` does, so it leaves the tag of the message whose next block is
`b`. -/
theorem cmacMsg_cmacAdd {s : State} (m : Mode) (b : List Byte) (bs : List (List Byte))
    (hfull : s.lastValid = true → s.lastLen = 16) :
    cmacMsg (keyBlock s) m (s.cmacAdd b).cache (b :: bs) =
      cmacMsg (keyBlock s) m s.cache (heldBlocks s ++ b :: bs) := by
  unfold heldBlocks State.cmacAdd
  cases hv : s.lastValid with
  | false => simp [State.holdBlock, State.setCache]
  | true =>
    simp [State.holdBlock, State.setCache, cmacMsg, hfull hv, blockOf_firstBytes, folded, encWith,
      cipherKey_eq_keyBlock, xorBlock_eq_xorBytes]

/-! ### Commands of a CMAC mode -/

/-- A block between commands in a CMAC mode with a key. -/
structure CmacReady (s : State) : Prop where
  idle : s.busy = false
  keyed : s.keySet = true
  cmac : IsCmac s.mode

theorem exec_addBlock_cmac {s : State} {len : Nat} (hkey : s.keySet = true) (hm : IsCmac s.mode) (hle : len ≤ 16)
    (hfull : s.lastValid = true → s.lastLen = 16) :
    exec (.addBlock len) s = .next ((s.cmacAdd (dinBytes len s)).succeed false) := by
  have hseq : ¬(s.lastValid = true ∧ s.lastLen < 16) := fun h => by
    obtain ⟨hv, hlt⟩ := h
    exact absurd (hfull hv) hlt.ne
  have hadd : addCmac len s = .next ((s.cmacAdd (dinBytes len s)).succeed false) := by
    rw [addCmac, if_neg (Nat.not_lt.2 hle), if_neg hseq]
  obtain hm | hm := hm <;> simp [exec, execAddBlock, hkey, hm, hadd]

theorem exec_finalize_of_macResult {s s' : State} {tag : List Byte} (hkey : s.keySet = true)
    (hmac : macResult s = some (tag, s')) : exec .finalize s = .next ((s'.writeTag tag).succeed false) := by
  simp [exec, execFinalize, hkey, hmac]

/-- The block with the word of `i` issued and the host waiting, `rest` to do then. -/
def awaiting (i : Instr) (rest : List HostAction) (s : State) : State :=
  (s.issue (encode i)).consume (.wait :: rest)

/-- A command written to an idle block and waited for: the step of its write, of its completion and of the wait. -/
theorem run_command {s t : State} {i : Instr} {rest : List HostAction} (hwf : WellFormed i) (hidle : s.busy = false)
    (hhost : s.host = command i ++ rest) (hexec : exec i (awaiting i rest s) = .next (t.consume (.wait :: rest)))
    (ht : t.busy = false) : run 3 s = .next (t.consume rest) := by
  have hissue : run 1 s = .next (awaiting i rest s) := run_one (step_of_command_write hidle hhost)
  have hcompleting : Completing (awaiting i rest s) := ⟨rfl, trivial⟩
  have hdone := (step_of_decode hcompleting (decode_encode hwf)).trans hexec
  exact run_succ (run_succ hissue hdone) (step_of_wait (State.consume_host ..) ht)

/-! What the issue of a word leaves for the command it starts, and that the end of the command is the end from the state
before the issue. -/

section

variable (i : Instr) (rest : List HostAction) (s : State)

@[simp] theorem awaiting_mode : (awaiting i rest s).mode = s.mode := rfl
@[simp] theorem awaiting_cache : (awaiting i rest s).cache = s.cache := rfl
@[simp] theorem keyBlock_awaiting : keyBlock (awaiting i rest s) = keyBlock s := rfl
@[simp] theorem heldBlocks_awaiting : heldBlocks (awaiting i rest s) = heldBlocks s := rfl
@[simp] theorem dinBytes_awaiting (len : Nat) : dinBytes len (awaiting i rest s) = dinBytes len s := rfl

theorem cmacAdd_awaiting (b : List Byte) :
    ((awaiting i rest s).cmacAdd b).succeed false = ((s.cmacAdd b).succeed false).consume (.wait :: rest) := rfl

theorem writeTag_awaiting (tag : List Byte) :
    ((awaiting i rest s).clearCmac.writeTag tag).succeed false =
      ((s.clearCmac.writeTag tag).succeed false).consume (.wait :: rest) := rfl

end

theorem run_addBlock {s : State} {b : List Byte} {rest : List HostAction} (hs : CmacReady s) (hb : b.length ≤ 16)
    (hfull : s.lastValid = true → s.lastLen = 16) (hdin : dinBytes b.length s = b)
    (hhost : s.host = command (.addBlock b.length) ++ rest) :
    run 3 s = .next (((s.cmacAdd b).succeed false).consume rest) := by
  have hwf : WellFormed (.addBlock b.length) := hb.trans (by decide)
  have hexec : exec (.addBlock b.length) (awaiting (.addBlock b.length) rest s) = _ :=
    exec_addBlock_cmac hs.keyed hs.cmac hb hfull
  rw [dinBytes_awaiting, hdin, cmacAdd_awaiting] at hexec
  exact run_command hwf hs.idle hhost hexec rfl

/-- FINALIZE in a CMAC mode writes `cmac_msg` of the block held, cut to the tag length. -/
theorem run_finalize {s : State} {rest : List HostAction} (hs : CmacReady s)
    (hhost : s.host = command .finalize ++ rest) :
    ∃ t, run 3 s = .next t ∧ t.host = rest ∧ t.busy = false ∧ t.err = .ok ∧ t.ovr = s.ovr ∧ t.reads = s.reads ∧
      t.tag = bytesOf 32
        (firstBytes (cmacMsg (keyBlock s) s.mode s.cache (heldBlocks s)) (tagBytes s.mode)) := by
  have hexec : exec .finalize (awaiting .finalize rest s) = _ :=
    exec_finalize_of_macResult hs.keyed (macResult_cmac hs.cmac)
  rw [writeTag_awaiting, keyBlock_awaiting, awaiting_mode, awaiting_cache, heldBlocks_awaiting] at hexec
  exact ⟨_, run_command trivial hs.idle hhost hexec rfl, rfl, rfl, rfl, rfl, rfl, rfl⟩

/-- The state after the host has read `words`, with `rest` to do then. -/
def afterReads (words : List Word) (rest : List HostAction) (s : State) : State :=
  { s with reads := s.reads ++ words, host := rest }

@[simp] theorem windowRead_afterReads (off : BitVec 8) (words : List Word) (rest : List HostAction) (s : State) :
    windowRead off (afterReads words rest s) = windowRead off s := rfl

@[simp] theorem afterReads_afterReads (words words' : List Word) (rest rest' : List HostAction) (s : State) :
    afterReads words' rest' (afterReads words rest s) = afterReads (words ++ words') rest' s := by
  simp only [afterReads, List.append_assoc]

/-- The reads of consecutive words by an idle block's host, one step each. -/
theorem run_reads {s : State} {base : Nat} (ws : List Nat) {rest : List HostAction} (hbase : base % 4 = 0)
    (hidle : s.busy = false) (hhost : s.host = ws.map (fun w => lw (base + 4 * w)) ++ rest) :
    run ws.length s =
      .next (afterReads (ws.map fun w => windowRead (BitVec.ofNat 8 (base + 4 * w)) s) rest s) := by
  induction ws generalizing s with
  | nil =>
    have hnone : afterReads [] rest s = s := by rw [afterReads, List.append_nil, ← show s.host = rest from hhost]
    rw [List.map_nil, hnone]
    rfl
  | cons w ws ih =>
    have halign : (BitVec.ofNat 8 (base + 4 * w)).toNat % 4 = 0 := by
      rw [BitVec.toNat_ofNat]
      omega
    have hfirst : run 1 s = .next (afterReads [windowRead (BitVec.ofNat 8 (base + 4 * w)) s]
        (ws.map (fun w => lw (base + 4 * w)) ++ rest) s) :=
      run_one (step_of_word_read hhost (reachesNow_of_idle 0 hidle) halign)
    rw [List.length_cons, Nat.add_comm, run_add hfirst, ih (s := afterReads _ _ s) hidle rfl]
    simp

/-! ### The blocks of a message -/

theorem dinBytes_putWords (B : Bytes 64) {b : List Byte} (hb : b.length ≤ 64) :
    firstBytes (putWords B b (ceilDiv b.length 4)) b.length = b := by
  refine List.ext_getElem (by simp [hb]) fun i _ hi => ?_
  have hload : i < 4 * ceilDiv b.length 4 := by unfold ceilDiv; omega
  simp [firstBytes, putWords_getElem, hload, byteAt, hi]

/-- The host's actions for one block (R84). -/
def feedBlock (b : List Byte) : List HostAction := loadDin b ++ command (.addBlock b.length)

/-- The state after the host has fed the block `b`. -/
def afterBlock (b : List Byte) (rest : List HostAction) (s : State) : State :=
  ((({ s with din := putWords s.din b (ceilDiv b.length 4) } : State).cmacAdd b).succeed false).consume rest

theorem run_feedBlock {s : State} {b : List Byte} {rest : List HostAction} (hs : CmacReady s) (hb : b.length ≤ 16)
    (hfull : s.lastValid = true → s.lastLen = 16) (hhost : s.host = feedBlock b ++ rest) :
    run (ceilDiv b.length 4 + 3) s = .next (afterBlock b rest s) := by
  have hload := (isBuffer_din hs.idle).run_loadAt s.din (command (.addBlock b.length) ++ rest) (b := b) (by omega)
  rw [← List.append_assoc, ← loadDin, ← feedBlock, ← hhost] at hload
  exact (run_add hload).trans
    (run_addBlock ⟨hs.idle, hs.keyed, hs.cmac⟩ hb hfull (dinBytes_putWords s.din (by omega)) rfl)

theorem heldBlocks_afterBlock {b : List Byte} (rest : List HostAction) (s : State) (hb : b.length ≤ 16) :
    heldBlocks (afterBlock b rest s) = [b] :=
  heldBlocks_cmacAdd { s with din := putWords s.din b (ceilDiv b.length 4) } hb

/-- `t` differs from `s` at most in what feeding blocks and a command without error may write. -/
def FeedFrame (s t : State) : Prop :=
  t = { s with
    din := t.din, cache := t.cache, last := t.last, lastLen := t.lastLen, lastValid := t.lastValid, busy := false,
    matched := t.matched, err := t.err, cmd := t.cmd, cyclesLeft := t.cyclesLeft, host := t.host }

theorem FeedFrame.trans {s t u : State} (hst : FeedFrame s t) (htu : FeedFrame t u) : FeedFrame s u := by
  unfold FeedFrame at *
  rw [htu, hst]

theorem feedFrame_afterBlock (b : List Byte) (rest : List HostAction) (s : State) :
    FeedFrame s (afterBlock b rest s) := rfl

theorem CmacReady.of_feedFrame {s t : State} (hs : CmacReady s) (h : FeedFrame s t) : CmacReady t := by
  rw [h]
  exact ⟨rfl, hs.keyed, hs.cmac⟩

/-- Feeding blocks through the window leaves the accumulator with the tag of what was held and what was fed. -/
theorem run_feedBlocks (bs : List (List Byte)) {s : State} {rest : List HostAction} (hs : CmacReady s)
    (hfull : bs ≠ [] → s.lastValid = true → s.lastLen = 16) (hblocks : ∀ b ∈ bs.dropLast, b.length = 16)
    (hle : ∀ b ∈ bs, b.length ≤ 16) (hhost : s.host = bs.flatMap feedBlock ++ rest) :
    ∃ n t, run n s = .next t ∧ FeedFrame s t ∧ t.host = rest ∧
      cmacMsg (keyBlock s) s.mode t.cache (heldBlocks t) =
        cmacMsg (keyBlock s) s.mode s.cache (heldBlocks s ++ bs) := by
  induction bs generalizing s with
  | nil =>
    refine ⟨0, s, rfl, ?_, hhost, by simp⟩
    unfold FeedFrame
    rw [← hs.idle]
  | cons b bs ih =>
    have hb : b.length ≤ 16 := hle b (by simp)
    have hfull := hfull (by simp)
    rw [List.flatMap_cons, List.append_assoc] at hhost
    have hfirst := run_feedBlock hs hb hfull hhost
    have hframe := feedFrame_afterBlock b (bs.flatMap feedBlock ++ rest) s
    have hfull' : bs ≠ [] → (afterBlock b (bs.flatMap feedBlock ++ rest) s).lastValid = true →
        (afterBlock b (bs.flatMap feedBlock ++ rest) s).lastLen = 16 := fun hbs _ =>
      hblocks b (by simp [List.dropLast_cons_of_ne_nil hbs])
    have hblocks' : ∀ b' ∈ bs.dropLast, b'.length = 16 := fun b' hb' => by
      have hbs : bs ≠ [] := List.ne_nil_of_mem (List.mem_of_mem_dropLast hb')
      exact hblocks b' (by simp [List.dropLast_cons_of_ne_nil hbs, hb'])
    obtain ⟨n, t, hrun, hrest, hthost, hmsg⟩ := ih (hs.of_feedFrame hframe) hfull' hblocks'
      (fun b' hb' => hle b' (by simp [hb'])) rfl
    refine ⟨_, t, (run_add hfirst).trans hrun, hframe.trans hrest, hthost, hmsg.trans ?_⟩
    rw [heldBlocks_afterBlock _ s hb]
    exact cmacMsg_cmacAdd s.mode b bs hfull

/-! ### The tag as the host reads it -/

theorem compute_eq_some {m : Mode} {d : List Byte} {actions : List HostAction} (h : compute m d = some actions) :
    actions = (messageBlocks m d).flatMap feedBlock ++ command .finalize ++ readTag m := by
  obtain ⟨-, -, rfl⟩ := Option.map_eq_some_iff.1 h
  rfl

/-- A word of TAG that the host reads has the bytes of the tag in its lanes. -/
theorem lane_windowRead_tag {s : State} {T : Block} {n j k : Nat} (hn : n ≤ 16) (hj : j < n / 4) (hk : k < 4)
    (htag : s.tag = bytesOf 32 (firstBytes T n)) :
    (windowRead (BitVec.ofNat 8 (0x0E0 + 4 * j)) s).extractLsb' (8 * k) 8 = T.toList.getD (4 * j + k) 0x00#8 := by
  have hoff : (BitVec.ofNat 8 (0x0E0 + 4 * j)).toNat = 0x0E0 + 4 * j := Nat.mod_eq_of_lt (by omega)
  have hword : (0x0E0 + 4 * j - 0x0E0) / 4 = j := by omega
  have hlt : 4 * j + k < n := by omega
  have hlane := laneByte_wordAt s.tag.toList j hk
  rw [byteAt_toList _ _ (by omega), htag, bytesOf_getElem, firstBytes_getD _ _ _ (by omega), if_pos hlt] at hlane
  rw [windowRead_tag (by omega), hoff, hword, htag]
  exact hlane.trans (byteAt_toList T _ (by omega)).symm

theorem tagBytes_cmac {m : Mode} (hm : IsCmac m) : tagBytes m = if m = .tmac then 8 else 16 := by
  obtain rfl | rfl := hm <;> rfl

/-- What the run of `compute` up to its reads leaves: the tag of the message stands in TAG, the block is idle without an
error, and the host has nothing but the reads left. -/
theorem run_compute_to_tag {s : State} {d : List Byte} {actions rest : List HostAction} (hs : CmacReady s)
    (hvalid : s.lastValid = false) (hcompute : compute s.mode d = some actions) (hhost : s.host = actions ++ rest) :
    ∃ n t, run n s = .next t ∧ t.host = readTag s.mode ++ rest ∧ t.busy = false ∧ t.err = .ok ∧ t.ovr = s.ovr ∧
      t.reads = s.reads ∧ t.tag = bytesOf 32
        (firstBytes (cmacMsg (keyBlock s) s.mode s.cache (messageBlocks s.mode d)) (tagBytes s.mode)) := by
  rw [compute_eq_some hcompute, List.append_assoc, List.append_assoc] at hhost
  obtain ⟨-, -, hfull, -⟩ := isSplit_messageBlocks hs.cmac d
  have hle : ∀ b ∈ messageBlocks s.mode d, b.length ≤ 16 := fun b hb =>
    length_le_of_mem_chunks (messageBlocks_cmac hs.cmac d ▸ hb)
  obtain ⟨n, t, hfeed, hframe, hthost, hmsg⟩ :=
    run_feedBlocks (messageBlocks s.mode d) hs (fun _ hv => by simp [hvalid] at hv) hfull hle hhost
  obtain ⟨u, hfinalize, huhost, hubusy, huerr, huovr, hureads, hutag⟩ := run_finalize (hs.of_feedFrame hframe) hthost
  have hkey : keyBlock t = keyBlock s := by rw [hframe]; rfl
  have hmode : t.mode = s.mode := by rw [hframe]
  have hovr : t.ovr = s.ovr := by rw [hframe]
  have hreads : t.reads = s.reads := by rw [hframe]
  have hheld : heldBlocks s = [] := by simp [heldBlocks, hvalid]
  rw [hkey, hmode, hmsg, hheld, List.nil_append] at hutag
  exact ⟨_, u, (run_add hfeed).trans hfinalize, huhost, hubusy, huerr, huovr.trans hovr, hureads.trans hreads, hutag⟩

/-- Settles O40: the blocks fed leave the tag of the message to be computed, FINALIZE writes it, and the reads return
its words. -/
theorem computeReadsTheCmacTag : Obligations.ComputeReadsTheCmacTag := by
  unfold Obligations.ComputeReadsTheCmacTag
  rintro m s d rest hm rfl hkey hvalid hcache hidle ⟨actions, hcompute, hhost⟩
  obtain ⟨n, t, hrun, hthost, htbusy, hterr, htovr, htreads, httag⟩ :=
    run_compute_to_tag ⟨hidle, hkey, hm⟩ hvalid hcompute hhost
  rw [hcache] at httag
  have hread := run_reads (List.range (tagBytes s.mode / 4)) (by decide) htbusy hthost
  have hwords : tagBytes s.mode / 4 = if s.mode = .tmac then 2 else 4 := by rw [tagBytes_cmac hm]; split <;> rfl
  have hle : tagBytes s.mode ≤ 16 := by rw [tagBytes_cmac hm]; split <;> decide
  refine ⟨messageBlocks s.mode d, _, _, _, isSplit_messageBlocks hm d, (run_add hrun).trans hread, rfl, htbusy, hterr,
    htovr, congrArg (· ++ _) htreads, by simpa using hwords, fun j k hj hk => ?_⟩
  have hj : j < tagBytes s.mode / 4 := by simpa using hj
  rw [← lane_windowRead_tag hle hj hk httag]
  simp [hj]

end Sys2Proof.Machine
end

section
/-! The setup commands: what SET_KEY and SET_MODE answer when no error applies, and the fields they write (40_setup.md).
-/

namespace Sys2Proof.Machine

open Sys2Proof.Claims

/-! ### The answers without an error -/

theorem exec_setKey {len : Nat} (s : State) (hpos : 1 ≤ len) (hle : len ≤ 64) :
    exec (.setKey len) s =
      .next ((((s.latchKey len).selectMode .none).clearCmac.setContexts Option.none Option.none).succeed false) :=
  if_neg (by omega : ¬(len = 0 ∨ 64 < len))

theorem exec_setCmac {m : Mode} {s : State} (hm : IsCmac m) (hkey : s.keySet = true) (hlen : s.keyLen = 16) :
    exec (setCmac m) s = .next (((s.selectMode m).clearCmac.setContexts Option.none Option.none).succeed false) := by
  have hexec : exec (setCmac m) s = setCmacMode m s := by obtain rfl | rfl := hm <;> rfl
  obtain ⟨hunset, -⟩ | ⟨-, hne, -⟩ | ⟨-, -, h⟩ := setCmacMode_cases m s
  · simp [hkey] at hunset
  · exact absurd hlen hne
  · exact hexec.trans h

theorem exec_setModeHmac {s : State} (hkey : s.keySet = true) :
    exec .setModeHmac s = .next ((s.selectMode .hmac).clearCmac.seedHmac.succeed false) := by
  obtain ⟨hunset, -⟩ | ⟨-, h⟩ := setHmacMode_cases s
  · simp [hkey] at hunset
  · exact h

/-! ### The fields written -/

/-- A mode selected with the CMAC core cleared, the contexts set and the command ended without error, as one update. -/
theorem selectMode_clearCmac_setContexts_succeed (m : Mode) (i o : Option HCtx) (s : State) :
    ((s.selectMode m).clearCmac.setContexts i o).succeed false = { s with
      mode := m, cache := zeros 16, last := zeros 16, lastLen := 0, lastValid := false, inner := i, outer := o,
      matched := false, err := .ok, busy := false, cmd := 0#32, cyclesLeft := 0 } := by
  rw [zeros_eq_repeatByte]
  rfl

theorem latchKey_key_getElem (len : Nat) (s : State) (i : Nat) (h : i < 64) :
    (s.latchKey len).key[i] = if i < len then s.keyIn[i] else 0x00#8 := by
  simp only [State.latchKey_key, bytesOf_getElem, firstBytes_getD _ _ _ h]

/-- The seed block of `hmac_seed(KEY[0:KEYLEN])` is that of R130 and R131, byte by byte. -/
theorem seedBytes_hmacKey (c : Byte) (s : State) : (seedBytes c (hmacKey s)).toList = seedBlock c s := by
  refine congrArg Vector.toList (Vector.ext fun i hi => ?_)
  have hkey : (padKey (hmacKey s))[i] = if i < s.keyLen then s.key[i] else 0x00#8 := by
    simp only [padKey, hmacKey, bytesOf_getElem, firstBytes_getD _ _ _ hi]
  simp [seedBytes, hkey]

theorem seedHmac_eq_setContexts (s : State) :
    s.seedHmac =
      s.setContexts (some (hUpdate hInit (seedBlock 0x36#8 s))) (some (hUpdate hInit (seedBlock 0x5c#8 s))) := by
  simp only [State.seedHmac, seedInner, seedOuter, seedBytes_hmacKey]

/-! ### The setup obligations -/

/-- Settles O23: the latch writes the key and its length, and the end of the command the fields of the cores. -/
theorem setKeyLatchesTheKey : Obligations.SetKeyLatchesTheKey := by
  unfold Obligations.SetKeyLatchesTheKey
  intro len s hpos hle
  refine ⟨_, exec_setKey s hpos hle, fun i => latchKey_key_getElem len s i.val i.isLt, ?_⟩
  simp only [selectMode_clearCmac_setContexts_succeed, State.latchKey]

/-- Settles O24: with KEY_SET and KEYLEN = 16 neither error of SET_MODE applies. -/
theorem setModeStartsTheCmacCore : Obligations.SetModeStartsTheCmacCore := by
  unfold Obligations.SetModeStartsTheCmacCore
  intro m s hm hkey hlen
  rw [exec_setCmac hm hkey hlen, selectMode_clearCmac_setContexts_succeed]

/-- Settles O25: the contexts are fed the seed blocks of the latched key, which SET_MODE leaves as it is. -/
theorem setModeSeedsTheHmacCore : Obligations.SetModeSeedsTheHmacCore := by
  unfold Obligations.SetModeSeedsTheHmacCore
  intro s hkey
  rw [exec_setModeHmac hkey, seedHmac_eq_setContexts, selectMode_clearCmac_setContexts_succeed]
  rfl

end Sys2Proof.Machine
end

section
/-! The doubling of the subkey generator, byte by byte (41_cmac_core.md R110). -/

namespace Sys2Proof.Machine

open Sys2Proof.Claims

/-- A byte shifted to weight `a` has its bits from `a` on. -/
theorem getLsbD_byte_inside (x : Byte) {a n : Nat} (hn : n < 128) (hlo : a ≤ n) :
    (x.setWidth 128 <<< a).getLsbD n = x.getLsbD (n - a) := by
  simp [hn, Nat.not_lt.2 hlo]

/-- It has no bit below `a`, and none past its eight. -/
theorem getLsbD_byte_outside (x : Byte) {a n : Nat} (h : n < a ∨ a + 8 ≤ n) :
    (x.setWidth 128 <<< a).getLsbD n = false := by
  obtain h | h := h
  · simp [h]
  · simp [BitVec.getLsbD_of_ge x (n - a) (by omega)]

/-- Byte `i` of a block has the weight `2 ^ (8 * (15 - i))` in its number (00_scope.md R14). -/
theorem intOf_getLsbD (B : Block) {i j : Nat} (hi : i < 16) (hj : j < 8) :
    (intOf B).getLsbD (8 * (15 - i) + j) = B[i].getLsbD j := by
  unfold intOf
  interval_cases i <;>
    simp (disch := omega) only [BitVec.getLsbD_or, getLsbD_byte_inside, getLsbD_byte_outside, BitVec.getLsbD_setWidth,
      BitVec.getLsbD_of_ge, decide_eq_true, Nat.add_sub_cancel_left, Nat.reduceSub, Nat.reduceMul, Nat.zero_add,
      Bool.true_and, Bool.and_false, Bool.false_or, Bool.or_false]

theorem blk_getLsbD (v : BitVec 128) {i j : Nat} (hi : i < 16) (hj : j < 8) :
    (blk v)[i].getLsbD j = v.getLsbD (8 * (15 - i) + j) := by
  simp [hj]

theorem blk_intOf (B : Block) : blk (intOf B) = B := by
  refine Vector.ext fun i hi => BitVec.eq_of_getLsbD_eq fun j hj => ?_
  rw [blk_getLsbD _ hi hj, intOf_getLsbD B hi hj]

/-- A shift of the number by one moves the top bit of each byte into the byte before it. -/
theorem blk_shiftLeft_getElem (v : BitVec 128) {i : Nat} (hi : i < 15) :
    (blk (v <<< 1))[i] = ((blk v)[i] <<< 1) ^^^ ((blk v)[i + 1] >>> 7) := by
  refine BitVec.eq_of_getLsbD_eq fun j hj => ?_
  rw [BitVec.getLsbD_xor, blk_getLsbD _ (by omega) hj, BitVec.getLsbD_shiftLeft, BitVec.getLsbD_shiftLeft,
    BitVec.getLsbD_ushiftRight]
  cases j with
  | zero =>
    rw [blk_getLsbD v (by omega) (by decide)]
    have hbit : 8 * (15 - i) - 1 = 8 * (15 - (i + 1)) + 7 := by omega
    have hlt : 8 * (15 - i) < 128 := by omega
    have hge : ¬8 * (15 - i) < 1 := by omega
    simp [hbit, hlt, hge]
  | succ k =>
    rw [blk_getLsbD v (by omega) (by omega), BitVec.getLsbD_of_ge ((blk v)[i + 1]) _ (by omega)]
    have hlt : 8 * (15 - i) + (k + 1) < 128 := by omega
    simp [hlt, hj]

theorem blk_shiftLeft_getElem_last (v : BitVec 128) : (blk (v <<< 1))[15] = (blk v)[15] <<< 1 := by
  refine BitVec.eq_of_getLsbD_eq fun j hj => ?_
  have hlt : j < 128 := by omega
  rw [BitVec.getLsbD_shiftLeft, blk_getLsbD _ (by decide) hj, BitVec.getLsbD_shiftLeft,
    blk_getLsbD _ (by decide) (by omega)]
  simp [hj, hlt]

theorem blk_xor_getElem (v w : BitVec 128) {i : Nat} (hi : i < 16) :
    (blk (v ^^^ w))[i] = (blk v)[i] ^^^ (blk w)[i] := by
  simp [BitVec.extractLsb'_xor]

/-- The reduction term stands in byte 15, the lowest byte (R111). -/
theorem blk_rb_getElem {i : Nat} (hi : i < 16) : (blk 0x87#128)[i] = if i = 15 then 0x87#8 else 0x00#8 := by
  interval_cases i <;> rfl

/-- The top bit of the number is that of byte 0. -/
theorem intOf_getLsbD_top (B : Block) : (intOf B).getLsbD 127 = decide (0x80 ≤ B[0].toNat) := by
  rw [show 127 = 8 * (15 - 0) + 7 from rfl, intOf_getLsbD B (by decide) (by decide)]
  exact BitVec.msb_eq_decide B[0]

/-- A byte of the doubling: that of the shifted number, and the reduction term in byte 15 alone. -/
theorem dbl_getElem (B : Block) {i : Nat} (hi : i < 16) :
    (dbl B)[i] = (blk (intOf B <<< 1))[i] ^^^ if i = 15 ∧ 0x80 ≤ B[0].toNat then 0x87#8 else 0x00#8 := by
  unfold dbl
  simp only [intOf_getLsbD_top, decide_eq_true_eq]
  split
  case isTrue h => simp only [blk_xor_getElem _ _ hi, blk_rb_getElem hi, h, and_true]
  case isFalse h => simp [h]

/-- Settles O29: each byte is that of the shifted number, with the reduction term in byte 15. -/
theorem doublingShiftsAndReduces : Obligations.DoublingShiftsAndReduces := by
  unfold Obligations.DoublingShiftsAndReduces
  refine fun B => ⟨fun i => ?_, ?_⟩
  · rw [dbl_getElem B (by omega), blk_shiftLeft_getElem _ i.isLt, blk_intOf, if_neg (by omega), BitVec.xor_zero]
  · rw [dbl_getElem B (by decide), blk_shiftLeft_getElem_last, blk_intOf]
    simp

end Sys2Proof.Machine
end

section
/-! ADD_BLOCK and FINALIZE in a CMAC mode, one command from any state: the paddings byte by byte, the two arms of
`cmac_add`, and the tag FINALIZE writes (41_cmac_core.md R115 to R121). -/

namespace Sys2Proof.Machine

open Sys2Proof.Claims

/-! ### The paddings -/

/-- Settles O30: `pad_iso` is the padding of OMAC. -/
theorem isoPaddingBytes : Obligations.IsoPaddingBytes := by
  unfold Obligations.IsoPaddingBytes
  intro b i _
  rw [padIso_eq_padded]
  by_cases hi : i.val < b.length <;> simp [padded, hi]

/-- Settles O31: `pad_pkcs7` is the padding of TMAC. -/
theorem pkcsPaddingBytes : Obligations.PkcsPaddingBytes := by
  unfold Obligations.PkcsPaddingBytes
  intro b i hb
  rw [padPkcs7_eq_padded hb]
  by_cases hi : i.val < b.length <;> simp [padded, hi]

/-! ### ADD_BLOCK -/

theorem exec_addBlock_eq_addCmac {s : State} (len : Nat) (hkey : s.keySet = true) (hm : IsCmac s.mode) :
    exec (.addBlock len) s = addCmac len s := by
  obtain hm | hm := hm <;> simp [exec, execAddBlock, hkey, hm]

theorem folded_eq_enc (s : State) : folded s = Config.enc (keyBlock s) (xorBlock s.cache s.last) := by
  rw [folded, encWith, cipherKey_eq_keyBlock, xorBlock_eq_xorBytes]

/-- The block added and the command ended without error, as one update. -/
theorem cmacAdd_succeed (b : List Byte) (s : State) :
    (s.cmacAdd b).succeed false = { s with
      cache := if s.lastValid then Config.enc (keyBlock s) (xorBlock s.cache s.last) else s.cache,
      last := bytesOf 16 b, lastLen := b.length, lastValid := true, matched := false, err := .ok, busy := false,
      cmd := 0#32, cyclesLeft := 0 } := by
  rw [← folded_eq_enc]
  rfl

/-- Settles O32: of the three answers of the CMAC arm only the add is left. -/
theorem addBlockFoldsAndHolds : Obligations.AddBlockFoldsAndHolds := by
  unfold Obligations.AddBlockFoldsAndHolds
  intro len s hkey hm hle hfull
  have hlen : (dinBytes len s).length = len := by rw [dinBytes, firstBytes_length]; omega
  obtain ⟨hlong, -⟩ | ⟨-, hvalid, hshort, -⟩ | ⟨-, -, hadd⟩ := addCmac_cases len s
  · omega
  · exact absurd (hfull hvalid) (Nat.not_le.2 hshort)
  · refine ⟨_, (exec_addBlock_eq_addCmac len hkey hm).trans hadd, fun i => ?_, ?_⟩
    · rw [cmacAdd_succeed]
      exact (bytesOf_getElem 16 _ i.val i.isLt).trans (firstBytes_getD s.din len i.val (by omega))
    · rw [cmacAdd_succeed, hlen]

/-- Settles O33: of the three answers of the CMAC arm only the SEQUENCE error is left. -/
theorem addBlockAfterAShortBlockIsASequenceError : Obligations.AddBlockAfterAShortBlockIsASequenceError := by
  unfold Obligations.AddBlockAfterAShortBlockIsASequenceError
  intro len s hkey hm hle hvalid hshort
  obtain ⟨hlong, -⟩ | ⟨-, -, -, hseq⟩ | ⟨-, hfull, -⟩ := addCmac_cases len s
  · omega
  · exact (exec_addBlock_eq_addCmac len hkey hm).trans hseq
  · exact absurd (hfull hvalid) (Nat.not_le.2 hshort)

/-! ### FINALIZE -/

theorem exec_finalize_cmac {s : State} (hkey : s.keySet = true) (hm : IsCmac s.mode) :
    exec .finalize s = .next ((s.clearCmac.writeTag
      (firstBytes (cmacMsg (keyBlock s) s.mode s.cache (heldBlocks s)) (tagBytes s.mode))).succeed false) :=
  exec_finalize_of_macResult hkey (macResult_cmac hm)

/-- The core cleared, the tag written and the command ended without error, as one update. -/
theorem clearCmac_writeTag_succeed (tag : List Byte) (s : State) :
    (s.clearCmac.writeTag tag).succeed false = { s with
      tag := bytesOf 32 tag, tagLen := tag.length, cache := zeros 16, last := zeros 16, lastLen := 0,
      lastValid := false, matched := false, err := .ok, busy := false, cmd := 0#32, cyclesLeft := 0 } := by
  rw [zeros_eq_repeatByte]
  rfl

/-- The TAG register after `cmac_out` of a tag block begins with the bytes of the tag (43_commands.md R144). -/
theorem bytesOf_firstBytes_getElem (T : Block) {n i : Nat} (hn : n ≤ 16) (hi : i < n) :
    (bytesOf 32 (firstBytes T n))[i] = T[i] := by
  rw [bytesOf_getElem, firstBytes_getD T n i (by omega), if_pos hi]

theorem finalBlock_length {s : State} (hle : s.lastLen ≤ 16) : (finalBlock s).length = finalLen s := by
  unfold finalBlock finalLen
  split <;> simp [hle]

theorem finalBlock_getD (s : State) {i : Nat} (hi : i < 16) :
    (finalBlock s).getD i 0x00#8 = if i < finalLen s then s.last[i] else 0x00#8 := by
  unfold finalBlock finalLen
  split
  · exact firstBytes_getD s.last s.lastLen i hi
  · simp

theorem padded_omac_finalBlock {s : State} (hle : s.lastLen ≤ 16) : padded .omac (finalBlock s) = isoFinal s := by
  ext i hi
  by_cases h : i < finalLen s <;>
    simp [padded, isoFinal, finalBlock_length hle, finalBlock_getD s hi, h, -List.getD_eq_getElem?_getD]

theorem padded_tmac_finalBlock {s : State} (hle : s.lastLen ≤ 16) : padded .tmac (finalBlock s) = pkcsFinal s := by
  ext i hi
  by_cases h : i < finalLen s <;>
    simp [padded, pkcsFinal, finalBlock_length hle, finalBlock_getD s hi, h, -List.getD_eq_getElem?_getD]

/-- FINALIZE in a CMAC mode with a tag of `n` bytes, from the final block as the mode pads it. -/
theorem finalize_writes_tag {s : State} {n : Nat} {final : Block} (hkey : s.keySet = true) (hm : IsCmac s.mode)
    (hle : s.lastLen ≤ 16) (hn : n ≤ 16) (hbytes : tagBytes s.mode = n)
    (hfinal : padded s.mode (finalBlock s) = final) :
    ∃ t, exec .finalize s = .next t ∧
      (∀ i : Fin 32, t.tag[i] =
        if h : i.val < n then (cmacTagOf (keyBlock s) (finalLen s) s.cache final)[i.val] else 0x00#8) ∧
      t = { s with
        tag := t.tag, tagLen := n, cache := zeros 16, last := zeros 16, lastLen := 0, lastValid := false,
        matched := false, err := .ok, busy := false, cmd := 0#32, cyclesLeft := 0 } := by
  refine ⟨_, exec_finalize_cmac hkey hm, fun i => ?_, ?_⟩
  · rw [cmacMsg_heldBlocks, finalBlock_length hle, hfinal, hbytes]
    split
    case isTrue h => exact bytesOf_firstBytes_getElem _ hn h
    case isFalse h => exact (bytesOf_getElem ..).trans (List.getD_eq_default _ _ (by rw [firstBytes_length]; omega))
  · rw [clearCmac_writeTag_succeed, firstBytes_length, hbytes, Nat.min_eq_left hn]

/-- Settles O34: the final block is padded as `pad_iso` does, and the tag has all 16 bytes. -/
theorem finalizeWritesTheOmacTag : Obligations.FinalizeWritesTheOmacTag := by
  unfold Obligations.FinalizeWritesTheOmacTag
  intro s hkey hm hle
  exact finalize_writes_tag hkey (.inl hm) hle le_rfl (by rw [hm]; rfl) (hm ▸ padded_omac_finalBlock hle)

/-- Settles O35: the final block is padded as `pad_pkcs7` does, and the tag is the first 8 bytes. -/
theorem finalizeWritesTheTmacTag : Obligations.FinalizeWritesTheTmacTag := by
  unfold Obligations.FinalizeWritesTheTmacTag
  intro s hkey hm hle
  exact finalize_writes_tag hkey (.inr hm) hle (by decide) (by rw [hm]; rfl) (hm ▸ padded_tmac_finalBlock hle)

end Sys2Proof.Machine
end

section
/-! The tag of a whole message in a CMAC mode, at the level of commands: R84's split read block by block, the blocks fed
one ADD_BLOCK each, and the properties that follow (41_cmac_core.md R122 to R124). -/

namespace Sys2Proof.Machine

open Sys2Proof.Claims

/-! ### The split of a message -/

/-- R84's split of a message in a CMAC mode, block by block: a last block of at most 16 bytes, and a full block before
every non-empty rest. `blocks_of_isSplit` ties it to `IsSplit`. -/
inductive Blocks : List Byte → List (List Byte) → Prop
  | last {b : List Byte} (hle : b.length ≤ 16) : Blocks b [b]
  | block {b d : List Byte} {bs : List (List Byte)} (hfull : b.length = 16) (hne : d ≠ []) (hrest : Blocks d bs) :
      Blocks (b ++ d) (b :: bs)

/-- The first of several blocks is full, and what follows it is not empty and split the same way. -/
theorem isSplit_tail {d b c : List Byte} {bs : List (List Byte)} (h : IsSplit d (b :: c :: bs)) :
    b.length = 16 ∧ (c :: bs).flatten ≠ [] ∧ IsSplit (c :: bs).flatten (c :: bs) := by
  obtain ⟨rfl, -, hfull, hlast⟩ := h
  obtain ⟨hb, hfull⟩ := List.forall_mem_cons.1 hfull
  have hne : (b :: c :: bs).flatten ≠ [] := List.ne_nil_of_length_pos (by simp [hb])
  have hlast : ∀ e ∈ (c :: bs).getLast?, e.length ≤ 16 ∧ e ≠ [] := fun e he => by
    obtain ⟨hle, hnil⟩ := hlast e he
    exact ⟨hle, fun h => hne (hnil h)⟩
  refine ⟨hb, fun hnil => ?_, rfl, List.cons_ne_nil c bs, hfull, fun e he => ?_⟩
  · obtain ⟨-, hend⟩ := hlast _ (List.getLast?_eq_some_getLast (List.cons_ne_nil c bs))
    exact hend (List.flatten_eq_nil_iff.1 hnil _ (List.getLast_mem _))
  · obtain ⟨hle, hend⟩ := hlast e he
    exact ⟨hle, fun h => absurd h hend⟩

theorem blocks_of_isSplit {d : List Byte} {bs : List (List Byte)} (h : IsSplit d bs) : Blocks d bs := by
  induction bs generalizing d with
  | nil =>
    obtain ⟨-, hne, -⟩ := h
    exact absurd rfl hne
  | cons b bs ih =>
    cases bs with
    | nil =>
      obtain ⟨rfl, -, -, hlast⟩ := h
      obtain ⟨hle, -⟩ := hlast b rfl
      simpa using Blocks.last hle
    | cons c bs =>
      obtain ⟨hfull, hne, hrest⟩ := isSplit_tail h
      obtain ⟨rfl, -⟩ := h
      exact .block hfull hne (ih hrest)

/-- A message has one split only. -/
theorem Blocks.unique {d : List Byte} {bs cs : List (List Byte)} (h : Blocks d bs) (h' : Blocks d cs) : bs = cs := by
  induction h generalizing cs with
  | last hle =>
    cases h' with
    | last => rfl
    | block hfull hne =>
      have := List.length_pos_iff.2 hne
      rw [List.length_append] at hle
      omega
  | @block b d bs hfull hne hrest ih =>
    generalize hjoin : b ++ d = e at h'
    cases h' with
    | last hle =>
      have := List.length_pos_iff.2 hne
      rw [← hjoin, List.length_append] at hle
      omega
    | block hfull' hne' hrest' =>
      obtain ⟨rfl, rfl⟩ := List.append_inj hjoin (hfull.trans hfull'.symm)
      rw [ih hrest']

/-- Full blocks before a message go before its split. -/
theorem Blocks.append {d : List Byte} {full bs : List (List Byte)} (hfull : ∀ b ∈ full, b.length = 16)
    (hne : d ≠ []) (h : Blocks d bs) : Blocks (full.flatten ++ d) (full ++ bs) := by
  induction full with
  | nil => exact h
  | cons b full ih =>
    rw [List.flatten_cons, List.append_assoc]
    exact .block (hfull b (by simp)) (by simp [hne]) (ih fun c hc => hfull c (by simp [hc]))

/-- Full blocks are the split of what they join to. -/
theorem blocks_flatten {full : List (List Byte)} (hfull : ∀ b ∈ full, b.length = 16) (hne : full ≠ []) :
    Blocks full.flatten full := by
  obtain ⟨bs, b, rfl⟩ := (List.eq_nil_or_concat full).resolve_left hne
  have hb : b.length = 16 := hfull b (by simp)
  simpa using (Blocks.last hb.le).append (fun c hc => hfull c (by simp [hc])) (List.ne_nil_of_length_pos (by omega))

/-- A non-empty message of 16k bytes is split in full blocks. -/
theorem Blocks.length_eq {d : List Byte} {bs : List (List Byte)} (h : Blocks d bs) (hne : d ≠ [])
    (hmod : d.length % 16 = 0) : ∀ b ∈ bs, b.length = 16 := by
  induction h with
  | last hle =>
    have := List.length_pos_iff.2 hne
    simp only [List.mem_singleton, forall_eq]
    omega
  | block hfull hne' _ ih =>
    rw [List.length_append, hfull] at hmod
    exact List.forall_mem_cons.2 ⟨hfull, ih hne' (by omega)⟩

/-! ### Feeding blocks by commands -/

theorem feed_cons {s t : State} {b : List Byte} {bs : List (List Byte)}
    (h : exec (.addBlock b.length) (loaded b s) = .next t) : feed (b :: bs) s = feed bs t := by
  simp only [feed, h]

/-- Blocks fed together are fed one part after the other. -/
theorem feed_append {as bs : List (List Byte)} {s t : State} (h : feed (as ++ bs) s = .next t) :
    ∃ u, feed as s = .next u ∧ feed bs u = .next t := by
  induction as generalizing s with
  | nil => exact ⟨s, rfl, h⟩
  | cons a as ih =>
    obtain ⟨u, hu, -⟩ := exec_completes (.addBlock a.length) (loaded a s)
    rw [List.cons_append, feed_cons hu] at h
    rw [feed_cons hu]
    exact ih h

/-- The bytes loaded are those ADD_BLOCK takes. -/
theorem dinBytes_loaded {b : List Byte} (s : State) (hb : b.length ≤ 64) : dinBytes b.length (loaded b s) = b := by
  refine List.ext_getElem (by simp [dinBytes, hb]) fun i _ hi => ?_
  simp [dinBytes, firstBytes, loaded, hi]

/-- Loading writes DIN only. -/
theorem loaded_eq_din (b : List Byte) (s : State) : ∃ din, loaded b s = { s with din := din } := ⟨_, rfl⟩

/-- One block loaded and added by a command: it is held, and the accumulator is left with the tag of the message whose
next block it is. -/
theorem exec_addBlock_loaded {s : State} {b : List Byte} (hs : CmacReady s) (hb : b.length ≤ 16)
    (hfull : s.lastValid = true → s.lastLen = 16) :
    ∃ t, exec (.addBlock b.length) (loaded b s) = .next t ∧ FeedFrame s t ∧ heldBlocks t = [b] ∧
      t.lastLen = b.length ∧ ∀ bs, cmacMsg (keyBlock s) s.mode t.cache (b :: bs) =
        cmacMsg (keyBlock s) s.mode s.cache (heldBlocks s ++ b :: bs) := by
  have hdin := dinBytes_loaded s (b := b) (by omega)
  obtain ⟨din, hloaded⟩ := loaded_eq_din b s
  rw [hloaded] at hdin ⊢
  have hexec := exec_addBlock_cmac (s := { s with din := din }) hs.keyed hs.cmac hb hfull
  rw [hdin] at hexec
  exact ⟨_, hexec, rfl, heldBlocks_cmacAdd { s with din := din } hb, rfl,
    fun bs => cmacMsg_cmacAdd (s := { s with din := din }) s.mode b bs hfull⟩

theorem FeedFrame.keyBlock_eq {s t : State} (h : FeedFrame s t) : keyBlock t = keyBlock s := by
  rw [h]
  rfl

theorem FeedFrame.mode_eq {s t : State} (h : FeedFrame s t) : t.mode = s.mode := by rw [h]

/-- The blocks of a message fed by commands leave the accumulator with the tag of what was held and the message. -/
theorem feed_blocks {d : List Byte} {bs : List (List Byte)} (h : Blocks d bs) {s : State} (hs : CmacReady s)
    (hfull : s.lastValid = true → s.lastLen = 16) :
    ∃ t, feed bs s = .next t ∧ FeedFrame s t ∧
      cmacMsg (keyBlock s) s.mode t.cache (heldBlocks t) =
        cmacMsg (keyBlock s) s.mode s.cache (heldBlocks s ++ bs) := by
  induction h generalizing s with
  | last hle =>
    obtain ⟨t, hexec, hframe, hheld, -, hmsg⟩ := exec_addBlock_loaded hs hle hfull
    exact ⟨t, feed_cons hexec, hframe, hheld ▸ hmsg []⟩
  | @block b d bs hb _ _ ih =>
    obtain ⟨t, hexec, hframe, hheld, hlen, hmsg⟩ := exec_addBlock_loaded hs hb.le hfull
    obtain ⟨u, hfeed, hrest, hmsg'⟩ := ih (hs.of_feedFrame hframe) fun _ => hlen.trans hb
    rw [hframe.keyBlock_eq, hframe.mode_eq, hheld] at hmsg'
    exact ⟨u, (feed_cons hexec).trans hfeed, hframe.trans hrest, hmsg'.trans (hmsg bs)⟩

/-- SET_MODE to a CMAC mode leaves a fresh core under the same key. -/
theorem exec_setCmac_ready {m : Mode} {s : State} (hm : IsCmac m) (hkey : s.keySet = true) (hlen : s.keyLen = 16) :
    ∃ t, exec (setCmac m) s = .next t ∧ CmacReady t ∧ t.mode = m ∧ t.lastValid = false ∧ t.cache = zeros 16 ∧
      keyBlock t = keyBlock s := by
  have hset := exec_setCmac hm hkey hlen
  rw [selectMode_clearCmac_setContexts_succeed] at hset
  exact ⟨_, hset, ⟨rfl, hkey, hm⟩, rfl, rfl, rfl, rfl⟩

/-- The commands of a whole message: SET_MODE, the blocks and FINALIZE complete, with the message's tag in TAG. -/
theorem exec_message {m : Mode} {s : State} {d : List Byte} {bs : List (List Byte)} (hm : IsCmac m)
    (hkey : s.keySet = true) (hlen : s.keyLen = 16) (h : Blocks d bs) :
    ∃ t u v, exec (setCmac m) s = .next t ∧ feed bs t = .next u ∧ exec .finalize u = .next v ∧
      v.tagLen = tagBytes m ∧
      v.tag = bytesOf 32 (firstBytes (cmacMsg (keyBlock s) m (zeros 16) bs) (tagBytes m)) := by
  obtain ⟨t, hset, ht, rfl, hvalid, hcache, hkeyBlock⟩ := exec_setCmac_ready hm hkey hlen
  obtain ⟨u, hfeed, hframe, hmsg⟩ := feed_blocks h ht (by simp [hvalid])
  have hu := ht.of_feedFrame hframe
  have hheld : heldBlocks t = [] := by simp [heldBlocks, hvalid]
  have hfinalize := exec_finalize_cmac hu.keyed hu.cmac
  rw [hframe.keyBlock_eq, hframe.mode_eq, hmsg, hheld, hcache, hkeyBlock, List.nil_append] at hfinalize
  have hle : tagBytes t.mode ≤ 16 := by rw [tagBytes_cmac hm]; split <;> decide
  exact ⟨t, u, _, hset, hfeed, hfinalize, (firstBytes_length _ _).trans (Nat.min_eq_left hle), rfl⟩

/-! ### The properties that follow -/

/-- Settles O37: TAG holds the first bytes of the message's tag, as many as the mode has. -/
theorem cmacOfAWholeMessage : Obligations.CmacOfAWholeMessage := by
  unfold Obligations.CmacOfAWholeMessage
  intro m s d bs hm hkey hlen hsplit
  obtain ⟨t, u, v, hset, hfeed, hfinalize, htagLen, htag⟩ := exec_message hm hkey hlen (blocks_of_isSplit hsplit)
  refine ⟨t, u, v, hset, hfeed, hfinalize, htagLen.trans (tagBytes_cmac hm), fun i => ?_⟩
  simp only [htag, htagLen]
  exact (bytesOf_getElem ..).trans (firstBytes_getD _ _ _ i.isLt)

/-- Settles O38: the two parts' blocks joined are the split of the whole message, which is unique. -/
theorem streamingGivesTheSameTag : Obligations.StreamingGivesTheSameTag := by
  unfold Obligations.StreamingGivesTheSameTag
  rintro m s m1 m2 full tail whole hm hkey hlen rfl hfull htail hwhole
  have htail := blocks_of_isSplit htail
  have hwhole := blocks_of_isSplit hwhole
  obtain ⟨t, w, v, hset, hfeed, hfinalize, -, -⟩ := exec_message hm hkey hlen hwhole
  by_cases hempty : m2 = [] ∧ full ≠ []
  · obtain ⟨rfl, hne⟩ := hempty
    rw [List.append_nil] at hwhole
    have hsame : whole = full := hwhole.unique (blocks_flatten hfull hne)
    exact ⟨t, w, w, v, w, v, hset, hsame ▸ hfeed, by simp [hne], hfinalize, hfeed, hfinalize, rfl, rfl⟩
  · have hsame : whole = full ++ tail := by
      cases full with
      | nil => exact hwhole.unique htail
      | cons b full => exact hwhole.unique (htail.append hfull (by simpa using hempty))
    obtain ⟨u, hfeedFull, hfeedTail⟩ := feed_append (hsame ▸ hfeed)
    have hparts : if m2 = [] ∧ full ≠ [] then w = u else feed tail u = .next w := by rwa [if_neg hempty]
    exact ⟨t, u, w, v, w, v, hset, hfeedFull, hparts, hfinalize, hfeed, hfinalize, rfl, rfl⟩

/-- In full blocks the padding plays no part, so the two modes give one tag (R124). -/
theorem cmacMsg_of_full (k c : Block) (m m' : Mode) {bs : List (List Byte)} (hne : bs ≠ [])
    (hfull : ∀ b ∈ bs, b.length = 16) : cmacMsg k m c bs = cmacMsg k m' c bs := by
  induction bs generalizing c with
  | nil => exact absurd rfl hne
  | cons b bs ih =>
    obtain ⟨hb, hrest⟩ := List.forall_mem_cons.1 hfull
    cases bs with
    | nil => rw [cmacMsg, cmacMsg, ← bytesOf_eq_padded m hb, ← bytesOf_eq_padded m' hb]
    | cons b' bs => exact ih _ (List.cons_ne_nil b' bs) hrest

/-- Settles O39: every block is full, and byte `i` below 8 is that of the one tag in both modes. -/
theorem tmacIsTheFirstHalfOfOmac : Obligations.TmacIsTheFirstHalfOfOmac := by
  unfold Obligations.TmacIsTheFirstHalfOfOmac
  intro s d bs hkey hlen hne hmod hsplit
  have hblocks := blocks_of_isSplit hsplit
  have hfull := hblocks.length_eq hne hmod
  obtain ⟨t, u, v, hset, hfeed, hfinalize, -, htag⟩ := exec_message (.inl rfl) hkey hlen hblocks
  obtain ⟨t', u', v', hset', hfeed', hfinalize', htagLen', htag'⟩ := exec_message (.inr rfl) hkey hlen hblocks
  refine ⟨t, u, v, t', u', v', hset, hfeed, hfinalize, hset', hfeed', hfinalize', htagLen', fun i => ?_⟩
  obtain ⟨-, hbs, -⟩ := hsplit
  simp only [htag, htag', cmacMsg_of_full _ _ .tmac .omac hbs hfull]
  exact (bytesOf_firstBytes_getElem _ (by decide) i.isLt).trans
    (bytesOf_firstBytes_getElem _ le_rfl (i.isLt.trans (by decide))).symm

end Sys2Proof.Machine
end

section
/-! The contexts of HMAC mode: one rule per state operation, then each command and the step (42_hmac_core.md R131 to
R135). -/

namespace Sys2Proof.Machine

/-! ### One rule per state operation -/

/-- Outside HMAC mode nothing is asked of the contexts. -/
theorem seeded_of_mode_ne {s : State} (hm : s.mode ≠ .hmac) : Seeded s :=
  ⟨fun h => absurd h hm, fun h => absurd h hm⟩

/-- After the seeding OUTER is the seed, and INNER its seed fed with the empty message. -/
theorem seeded_seedHmac (s : State) : Seeded s.seedHmac :=
  ⟨fun _ => rfl, fun _ => ⟨[], congrArg some (hUpdate_nil _).symm⟩⟩

theorem Seeded.complete {s : State} (h : Seeded s) (e : ErrCode) : Seeded (s.complete e) := ⟨h.outer, h.inner⟩

theorem Seeded.succeed {s : State} (h : Seeded s) (m : Bool) : Seeded (s.succeed m) := ⟨h.outer, h.inner⟩

theorem Seeded.writeTag {s : State} (h : Seeded s) (tag : List Byte) : Seeded (s.writeTag tag) := by
  unfold State.writeTag
  generalize bytesOf 32 tag = padded
  exact ⟨h.outer, h.inner⟩

/-- An access writes neither MODE, nor a key register, nor a context. -/
theorem Seeded.of_accessFrame {s t : State} (h : Seeded s) (hframe : AccessFrame s t) : Seeded t := by
  rw [hframe]
  exact ⟨h.outer, h.inner⟩

theorem innerCtx_of_inner {s : State} {c : HCtx} (h : s.inner = some c) : innerCtx s = c := by simp [innerCtx, h]

theorem outerCtx_of_outer {s : State} {c : HCtx} (h : s.outer = some c) : outerCtx s = c := by simp [outerCtx, h]

/-- INNER, fed with some message, is fed with the longer one after more bytes (00_scope.md R13). -/
theorem Seeded.hmacAdd {s : State} (h : Seeded s) (d : List Byte) : Seeded (s.hmacAdd d) := by
  refine ⟨h.outer, fun hm => ?_⟩
  obtain ⟨message, hinner⟩ := h.inner hm
  have hfed : hUpdate (innerCtx s) d = hUpdate (seedInner (hmacKey s)) (message ++ d) := by
    rw [innerCtx_of_inner hinner, hUpdate_append]
  exact ⟨message ++ d, congrArg some hfed⟩

/-! ### Commands and the step -/

/-- A tag computation clears the core of a CMAC mode and seeds that of HMAC again. -/
theorem seeded_of_macResult {s s' : State} {tag : List Byte} (hmac : macResult s = some (tag, s')) : Seeded s' := by
  obtain ⟨hm, -, rfl⟩ | ⟨hm, -, rfl⟩ | ⟨-, -, rfl⟩ := macResult_cases hmac
  · exact seeded_of_mode_ne (by simp [hm])
  · exact seeded_of_mode_ne (by simp [hm])
  · exact seeded_seedHmac s

theorem Seeded.completes {i : Instr} {s t : State} (h : Seeded s) (hx : Completes i s t) : Seeded t := by
  cases hx with
  | error e => exact h.complete e
  | setKey => exact seeded_of_mode_ne (Mode.noConfusion ·)
  | setCmac _ hm => exact seeded_of_mode_ne (cmacMode_ne hm).2
  | setHmac => exact (seeded_seedHmac _).succeed false
  | addCmac _ hm => exact seeded_of_mode_ne (cmacMode_ne hm).2
  | addHmac => exact (h.hmacAdd _).succeed false
  | finalize _ hmac => exact ((seeded_of_macResult hmac).writeTag _).succeed false
  | verify _ hmac => exact (seeded_of_macResult hmac).succeed _

/-- Settles O58: a reset leaves no mode, a command keeps the contexts seeded by its own rules, and an access writes
nothing they depend on. -/
theorem stepKeepsSeeded : Obligations.StepKeepsSeeded := by
  unfold Obligations.StepKeepsSeeded
  intro s t hseeded h
  cases answers_of_step h with
  | reset => exact seeded_of_mode_ne (Mode.noConfusion ·)
  | command i _ _ hx => exact hseeded.completes hx
  | illegal => exact hseeded.complete .illegalCmd
  | access _ hframe => exact hseeded.of_accessFrame hframe

end Sys2Proof.Machine
end

section
/-! The commands of HMAC mode and the tag of a whole message fed in chunks (42_hmac_core.md R133 to R135). -/

namespace Sys2Proof.Machine

open Sys2Proof.Claims

/-- A block in HMAC mode with a key, INNER at `ci` and OUTER at `co`. -/
structure HmacReady (ci co : HCtx) (s : State) : Prop where
  keyed : s.keySet = true
  hmac : s.mode = .hmac
  inner : s.inner = some ci
  outer : s.outer = some co

/-! ### ADD_BLOCK -/

theorem exec_addBlock_hmac {s : State} {len : Nat} (hkey : s.keySet = true) (hm : s.mode = .hmac) (hle : len ≤ 64) :
    exec (.addBlock len) s = .next ((s.hmacAdd (dinBytes len s)).succeed false) := by
  have hexec : exec (.addBlock len) s = addHmac len s := by simp [exec, execAddBlock, hkey, hm]
  obtain ⟨hlong, -⟩ | ⟨-, h⟩ := addHmac_cases len s
  · exact absurd hle (Nat.not_le.2 hlong)
  · exact hexec.trans h

/-- INNER fed and the command ended without error, as one update. -/
theorem hmacAdd_succeed {s : State} {c : HCtx} (d : List Byte) (hinner : s.inner = some c) :
    (s.hmacAdd d).succeed false = { s with
      inner := some (hUpdate c d), matched := false, err := .ok, busy := false, cmd := 0#32, cyclesLeft := 0 } := by
  rw [State.hmacAdd, innerCtx_of_inner hinner]
  rfl

theorem dinBytes_getElem? {len : Nat} (s : State) {i : Nat} (h : i < 64) (hi : i < len) :
    (dinBytes len s)[i]? = some s.din[i] := by
  simp [dinBytes, firstBytes, hi, h]

/-- Settles O41: the bytes fed are those at the start of DIN. -/
theorem addBlockFeedsTheInnerHash : Obligations.AddBlockFeedsTheInnerHash := by
  unfold Obligations.AddBlockFeedsTheInnerHash
  intro len s c hkey hm hle hinner
  refine ⟨dinBytes len s, by simp [dinBytes, hle], fun i h hi => dinBytes_getElem? s h hi, ?_⟩
  rw [exec_addBlock_hmac hkey hm hle, hmacAdd_succeed _ hinner]

/-! ### FINALIZE -/

/-- FINALIZE writes the digest of OUTER fed with INNER's digest and seeds the contexts again. -/
theorem exec_finalize_hmac {ci co : HCtx} {s : State} (hs : HmacReady ci co s) :
    exec .finalize s = .next { s with
      tag := hDigest (hUpdate co (hDigest ci).toList), tagLen := 32,
      inner := some (hUpdate hInit (seedBlock 0x36#8 s)), outer := some (hUpdate hInit (seedBlock 0x5c#8 s)),
      matched := false, err := .ok, busy := false, cmd := 0#32, cyclesLeft := 0 } := by
  have hmac : macResult s = some (hmacTag s, s.seedHmac) := by simp only [macResult, hs.hmac]
  have htag : bytesOf 32 (hmacTag s) = hDigest (hUpdate co (hDigest ci).toList) := by
    rw [hmacTag, innerCtx_of_inner hs.inner, outerCtx_of_outer hs.outer, bytesOf_toList]
  rw [exec_finalize_of_macResult hs.keyed hmac, State.writeTag, htag, hmacTag_length, seedHmac_eq_setContexts]
  rfl

/-- Settles O42: the contexts there are those the tag is computed from. -/
theorem finalizeWritesTheHmacTag : Obligations.FinalizeWritesTheHmacTag := by
  unfold Obligations.FinalizeWritesTheHmacTag
  intro s ci co hkey hm hinner houter
  exact exec_finalize_hmac ⟨hkey, hm, hinner, houter⟩

/-! ### A whole message -/

theorem exec_setModeHmac_ready {s : State} (hkey : s.keySet = true) :
    ∃ t, exec .setModeHmac s = .next t ∧
      HmacReady (hUpdate hInit (seedBlock 0x36#8 s)) (hUpdate hInit (seedBlock 0x5c#8 s)) t := by
  have hset := exec_setModeHmac hkey
  rw [seedHmac_eq_setContexts] at hset
  exact ⟨_, hset, hkey, rfl, rfl, rfl⟩

/-- Loading DIN leaves the block ready. -/
theorem hmacReady_loaded {ci co : HCtx} {s : State} (hs : HmacReady ci co s) (d : List Byte) :
    HmacReady ci co (loaded d s) := by
  obtain ⟨din, hloaded⟩ := loaded_eq_din d s
  rw [hloaded]
  exact ⟨hs.keyed, hs.hmac, hs.inner, hs.outer⟩

/-- ADD_BLOCK feeds INNER with the start of DIN and leaves the block ready for the next one. -/
theorem HmacReady.exec_addBlock {ci co : HCtx} {s : State} (hs : HmacReady ci co s) {len : Nat} (hle : len ≤ 64) :
    ∃ t, exec (.addBlock len) s = .next t ∧ HmacReady (hUpdate ci (dinBytes len s)) co t := by
  have hexec := exec_addBlock_hmac hs.keyed hs.hmac hle
  rw [hmacAdd_succeed _ hs.inner] at hexec
  exact ⟨_, hexec, hs.keyed, hs.hmac, rfl, hs.outer⟩

/-- Chunks fed by commands leave INNER fed with all of them joined. -/
theorem HmacReady.feed_chunks {ci co : HCtx} {s : State} (hs : HmacReady ci co s) {ds : List (List Byte)}
    (hds : ∀ d ∈ ds, d.length ≤ 64) :
    ∃ t, feed ds s = .next t ∧ HmacReady (hUpdate ci ds.flatten) co t := by
  induction ds generalizing ci s with
  | nil => exact ⟨s, rfl, hs⟩
  | cons d ds ih =>
    obtain ⟨hd, hrest⟩ := List.forall_mem_cons.1 hds
    obtain ⟨t, hexec, ht⟩ := (hmacReady_loaded hs d).exec_addBlock hd
    rw [dinBytes_loaded s hd] at ht
    obtain ⟨u, hfeed, hu⟩ := ih ht hrest
    rw [List.flatten_cons, hUpdate_append]
    exact ⟨u, (feed_cons hexec).trans hfeed, hu⟩

/-- Settles O43: at FINALIZE the contexts are the seeds, INNER's fed with the joined chunks, so by the incremental law
their digests are hashes of the joined byte strings. -/
theorem hmacOfAWholeMessage : Obligations.HmacOfAWholeMessage := by
  unfold Obligations.HmacOfAWholeMessage
  intro s ds hkey hds
  obtain ⟨t, hset, ht⟩ := exec_setModeHmac_ready hkey
  obtain ⟨u, hfeed, hu⟩ := ht.feed_chunks hds
  refine ⟨t, u, _, hset, hfeed, exec_finalize_hmac hu, rfl, ?_⟩
  simp only [hashOf, hUpdate_append]

end Sys2Proof.Machine
end

section
/-! VERIFY and MATCH: the constant-time comparison, what VERIFY leaves beside the tag FINALIZE would write, and how long
its result lasts (43_commands.md R142 to R146). -/

namespace Sys2Proof.Machine

open Sys2Proof.Claims

/-! ### The comparison -/

/-- The OR of the byte differences is zero exactly when it began at zero and no byte differs. -/
theorem foldl_or_xor_eq_zero_iff {a b : List Byte} (acc : Byte) (hlen : a.length = b.length) :
    (a.zip b).foldl (fun d p => d ||| (p.1 ^^^ p.2)) acc = 0x00#8 ↔ acc = 0x00#8 ∧ a = b := by
  induction a generalizing b acc with
  | nil => simp [List.length_eq_zero_iff.1 hlen.symm]
  | cons x a ih =>
    cases b with
    | nil => simp at hlen
    | cons y b =>
      rw [List.zip_cons_cons, List.foldl_cons, ih _ (Nat.succ.inj hlen), BitVec.or_eq_zero_iff, BitVec.xor_eq_zero_iff,
        List.cons.injEq, and_assoc]

theorem ctEqual_eq_true_iff {a b : List Byte} (hlen : a.length = b.length) : ctEqual a b = true ↔ a = b := by
  rw [ctEqual, beq_iff_eq, foldl_or_xor_eq_zero_iff _ hlen, and_iff_right rfl]

/-- Settles O47: the differences collected are zero exactly when there are none. -/
theorem constantTimeComparisonIsEquality : Obligations.ConstantTimeComparisonIsEquality := by
  unfold Obligations.ConstantTimeComparisonIsEquality
  exact fun a b hlen => ctEqual_eq_true_iff hlen

/-- VERIFY's comparison with EXP, byte by byte of the TAG register that FINALIZE would leave. -/
theorem ctEqual_expBytes_iff {tag : List Byte} (s : State) (hle : tag.length ≤ 32) :
    ctEqual tag (expBytes tag.length s) = true ↔
      ∀ i : Fin 32, i.val < tag.length → (bytesOf 32 tag)[i] = s.exp[i] := by
  have hlen : tag.length = (expBytes tag.length s).length := by simp [expBytes, hle]
  rw [ctEqual_eq_true_iff hlen, List.ext_getElem_iff, and_iff_right hlen]
  constructor
  · intro h i hi
    simpa [expBytes, firstBytes, hi] using h i.val hi (hlen ▸ hi)
  · intro h i hi hi'
    simpa [expBytes, firstBytes, hi] using h ⟨i, hi.trans_le hle⟩ hi

/-! ### VERIFY beside FINALIZE -/

theorem exec_verify_of_macResult {s s' : State} {tag : List Byte} (hkey : s.keySet = true)
    (hmac : macResult s = some (tag, s')) :
    exec .verify s = .next (s'.succeed (ctEqual tag (expBytes tag.length s))) := by
  simp [exec, execVerify, hkey, hmac]

theorem macResult_length_le {s s' : State} {tag : List Byte} (hmac : macResult s = some (tag, s')) :
    tag.length ≤ 32 := by
  obtain h | h | h := macResult_length hmac <;> omega

theorem exists_macResult {s : State} (hm : s.mode ≠ .none) : ∃ tag s', macResult s = some (tag, s') := by
  obtain ⟨⟨tag, s'⟩, hmac⟩ := Option.ne_none_iff_exists'.1 (mt (macResult_none s).1 hm)
  exact ⟨tag, s', hmac⟩

/-- The comparison of a VERIFY that completes without error, by the tag of the FINALIZE in its place. -/
theorem ctEqual_iff_finalize {s s' : State} {tag : List Byte} (hkey : s.keySet = true)
    (hmac : macResult s = some (tag, s')) :
    ∃ u, exec .finalize s = .next u ∧
      (ctEqual tag (expBytes tag.length s) = true ↔ ∀ i : Fin 32, i.val < u.tagLen → u.tag[i] = s.exp[i]) := by
  refine ⟨_, exec_finalize_of_macResult hkey hmac, ?_⟩
  rw [State.succeed_tagLen, State.writeTag_tagLen, State.succeed_tag, State.writeTag_tag]
  exact ctEqual_expBytes_iff s (macResult_length_le hmac)

/-- Settles O44: both commands end the same tag computation, FINALIZE by writing the tag, VERIFY by comparing it. -/
theorem verifyComparesTheTagOfFinalize : Obligations.VerifyComparesTheTagOfFinalize := by
  unfold Obligations.VerifyComparesTheTagOfFinalize
  intro s hkey hm
  obtain ⟨tag, s', hmac⟩ := exists_macResult hm
  obtain ⟨u, hfinalize, hmatched⟩ := ctEqual_iff_finalize hkey hmac
  refine ⟨_, u, exec_verify_of_macResult hkey hmac, hfinalize, hmatched, ?_⟩
  cases (exec_finalize_of_macResult hkey hmac).symm.trans hfinalize
  rw [macResult_frame hmac]
  rfl

/-! ### How long MATCH lasts -/

theorem Completes.matched_eq_of_error {i : Instr} {s t : State} (h : Completes i s t) (herr : t.err ≠ .ok) :
    t.matched = s.matched := by
  cases h with
  | error => rfl
  | _ => exact absurd rfl herr

theorem Completes.matched_eq_false {i : Instr} {s t : State} (h : Completes i s t) (hok : t.err = .ok)
    (hi : i ≠ .verify) : t.matched = false := by
  cases h with
  | error e he => exact absurd hok he
  | verify => exact absurd rfl hi
  | _ => rfl

/-- VERIFY completes with the error it reports, or with the comparison of the tag computed. -/
theorem Completes.verify_cases {s t : State} (h : Completes .verify s t) :
    (expectedError .verify s ≠ .ok ∧ t = s.complete (expectedError .verify s)) ∨
    (expectedError .verify s = .ok ∧ ∃ tag s', s.keySet = true ∧ macResult s = some (tag, s') ∧
      t = s'.succeed (ctEqual tag (expBytes tag.length s))) := by
  cases h with
  | error e he hexpected => exact .inl ⟨hexpected ▸ he, hexpected ▸ rfl⟩
  | setCmac hi hm => obtain rfl | rfl := hm <;> cases hi
  | verify hkey hmac =>
    have hm : s.mode ≠ .none := fun hm => by simp [(macResult_none s).2 hm] at hmac
    exact .inr ⟨by simp [expectedError, hkey, hm], _, _, hkey, hmac, rfl⟩

theorem Completes.verify_matched_iff {s t : State} (h : Completes .verify s t) (hok : t.err = .ok) :
    ∃ u, exec .finalize s = .next u ∧
      (t.matched = true ↔ ∀ i : Fin 32, i.val < u.tagLen → u.tag[i] = s.exp[i]) := by
  obtain ⟨herr, rfl⟩ | ⟨-, tag, s', hkey, hmac, rfl⟩ := h.verify_cases
  · exact absurd hok herr
  · exact ctEqual_iff_finalize hkey hmac

theorem not_completing_of_reset {s : State} {rest : List HostAction} (hhost : s.host = .reset :: rest) :
    ¬Completing s := by
  simp [Completing, hhost]

/-- Settles O28: of the ways a step answers, only a command without error writes MATCH, and a reset clears it. -/
theorem matchLastsUntilTheNextSuccess : Obligations.MatchLastsUntilTheNextSuccess := by
  unfold Obligations.MatchLastsUntilTheNextSuccess
  intro s t h
  cases answers_of_step h with
  | reset rest hhost =>
    exact ⟨fun hc => absurd hc (not_completing_of_reset hhost), fun _ hno => absurd hhost (hno rest)⟩
  | command i hc hd hx =>
    refine ⟨fun _ => ⟨hx.matched_eq_of_error, fun hok hne => ?_, fun hok hv => ?_⟩, fun hnc => absurd hc hnc⟩
    · exact hx.matched_eq_false hok fun hi => hne (hi ▸ hd)
    · cases hd.symm.trans hv
      exact hx.verify_matched_iff hok
  | illegal e hc =>
    exact ⟨fun _ => ⟨fun _ => rfl, fun hok => ErrCode.noConfusion hok, fun hok => ErrCode.noConfusion hok⟩,
      fun hnc => absurd hc hnc⟩
  | access hc hframe => exact ⟨fun hc' => absurd hc' hc, fun _ _ => by rw [hframe]⟩

/-! ### What VERIFY shows -/

theorem sameInView_complete {a b : State} (h : SameInView a b) (e : ErrCode) :
    SameInView (a.complete e) (b.complete e) := by
  obtain ⟨hset, hkeyLen, hmode, hlastLen, hvalid, hdin, hexp, htag, htagLen, -, hmatched, hovr, -⟩ := h
  exact ⟨hset, hkeyLen, hmode, hlastLen, hvalid, hdin, hexp, htag, htagLen, rfl, hmatched, hovr, rfl⟩

theorem sameInView_succeed {a b : State} (h : SameInView a b) (m : Bool) : SameInView (a.succeed m) (b.succeed m) := by
  obtain ⟨hset, hkeyLen, hmode, hlastLen, hvalid, hdin, hexp, htag, htagLen, -, -, hovr, -⟩ := h
  exact ⟨hset, hkeyLen, hmode, hlastLen, hvalid, hdin, hexp, htag, htagLen, rfl, rfl, hovr, rfl⟩

theorem sameInView_clearCmac {a b : State} (h : SameInView a b) : SameInView a.clearCmac b.clearCmac := by
  obtain ⟨hset, hkeyLen, hmode, -, -, hdin, hexp, htag, htagLen, hbusy, hmatched, hovr, herr⟩ := h
  exact ⟨hset, hkeyLen, hmode, rfl, rfl, hdin, hexp, htag, htagLen, hbusy, hmatched, hovr, herr⟩

/-- The host sees no context, so a seeding changes nothing in its view. -/
theorem sameInView_seedHmac {a b : State} (h : SameInView a b) : SameInView a.seedHmac b.seedHmac := h

theorem macResult_core {s s' : State} {tag : List Byte} (hmac : macResult s = some (tag, s')) :
    s' = if s.mode = .hmac then s.seedHmac else s.clearCmac := by
  obtain ⟨hm, -, rfl⟩ | ⟨hm, -, rfl⟩ | ⟨hm, -, rfl⟩ := macResult_cases hmac <;> simp [hm]

/-- The core is freshly initialised by a tag computation, so the host sees the same of it whatever was in it. -/
theorem sameInView_of_macResult {a b a' b' : State} {tagA tagB : List Byte} (h : SameInView a b)
    (hmacA : macResult a = some (tagA, a')) (hmacB : macResult b = some (tagB, b')) : SameInView a' b' := by
  obtain ⟨-, -, hmode, -⟩ := id h
  rw [macResult_core hmacA, macResult_core hmacB, hmode]
  split
  · exact sameInView_seedHmac h
  · exact sameInView_clearCmac h

theorem expectedError_verify_congr {a b : State} (h : SameInView a b) :
    expectedError .verify a = expectedError .verify b := by
  obtain ⟨hset, -, hmode, -⟩ := h
  simp only [expectedError, hset, hmode]

/-- Settles O45: the error, if any, is a function of the view, and otherwise both cores are left freshly initialised with
the same MATCH. -/
theorem verifyShowsOnlyMatch : Obligations.VerifyShowsOnlyMatch := by
  unfold Obligations.VerifyShowsOnlyMatch
  intro a b h
  have hexpected := expectedError_verify_congr h
  obtain ⟨ta, hexecA, hA⟩ := exec_completes .verify a
  obtain ⟨tb, hexecB, hB⟩ := exec_completes .verify b
  refine ⟨ta, tb, hexecA, hexecB, fun hmatched => ?_⟩
  obtain ⟨herrA, rfl⟩ | ⟨hokA, tagA, a', -, hmacA, rfl⟩ := hA.verify_cases <;>
    obtain ⟨herrB, rfl⟩ | ⟨hokB, tagB, b', -, hmacB, rfl⟩ := hB.verify_cases
  · rw [hexpected]
    exact sameInView_complete h _
  · exact absurd (hexpected.trans hokB) herrA
  · exact absurd (hexpected.symm.trans hokA) herrB
  · rw [State.succeed_matched, State.succeed_matched] at hmatched
    rw [hmatched]
    exact sameInView_succeed (sameInView_of_macResult h hmacA hmacB) _

end Sys2Proof.Machine
end

section
/-! FINALIZE of a freshly initialised core: after a FINALIZE and after SET_MODE it tags the empty message (43_commands.md
R141; 41_cmac_core.md R120, R122; 42_hmac_core.md R134, R135). -/

namespace Sys2Proof.Machine

open Sys2Proof.Claims

/-- The tag of the empty message in the mode of `s` under its key. -/
def emptyTag (s : State) : List Byte :=
  if s.mode = .hmac then (hashOf (seedBlock 0x5c#8 s ++ (hashOf (seedBlock 0x36#8 s)).toList)).toList
  else firstBytes (cmacMsg (keyBlock s) s.mode (zeros 16) [[]]) (tagBytes s.mode)

/-- FINALIZE would complete with this tag. -/
def Tags (tag : List Byte) (s : State) : Prop := s.keySet = true ∧ ∃ s', macResult s = some (tag, s')

theorem Tags.exec_finalize {tag : List Byte} {s : State} (h : Tags tag s) :
    ∃ t, exec .finalize s = .next t ∧ t.tag = bytesOf 32 tag ∧ t.tagLen = tag.length := by
  obtain ⟨hkey, s', hmac⟩ := h
  exact ⟨_, exec_finalize_of_macResult hkey hmac, by simp, by simp⟩

/-! ### A freshly initialised core -/

/-- A core of a CMAC mode with nothing held tags the empty message: no block is `cmac_msg` of one empty block. -/
theorem tags_emptyTag_cmac {s : State} (hkey : s.keySet = true) (hm : IsCmac s.mode) (hvalid : s.lastValid = false)
    (hcache : s.cache = zeros 16) : Tags (emptyTag s) s := by
  have hheld : heldBlocks s = [] := by simp [heldBlocks, hvalid]
  have hmac := macResult_cmac hm
  rw [hheld, hcache] at hmac
  rw [emptyTag, if_neg (cmacMode_ne hm).2]
  exact ⟨hkey, _, hmac⟩

/-- Contexts at the seeds of the key of `s` tag the empty message, by the incremental law of the hash port (00_scope.md
R13). -/
theorem tags_emptyTag_hmac {s t : State} (hm : s.mode = .hmac)
    (ht : HmacReady (hUpdate hInit (seedBlock 0x36#8 s)) (hUpdate hInit (seedBlock 0x5c#8 s)) t) :
    Tags (emptyTag s) t := by
  have htag : hmacTag t = emptyTag s := by
    rw [emptyTag, if_pos hm, hmacTag, innerCtx_of_inner ht.inner, outerCtx_of_outer ht.outer, hashOf, hashOf,
      hUpdate_append]
  exact ⟨ht.keyed, t.seedHmac, by simp only [macResult, ht.hmac, htag]⟩

/-! ### The two ways to a fresh core -/

theorem finalize_keeps {s t : State} (h : exec .finalize s = .next t) : t.mode = s.mode ∧ t.key = s.key := by
  have hx := completes_of_exec h
  obtain ⟨hkey, -, -⟩ := hx.key_eq (fun _ h => Instr.noConfusion h)
  obtain hmode | ⟨len, hi⟩ | hi := hx.mode_cases
  · exact ⟨hmode, hkey⟩
  · cases hi
  · cases hm : t.mode <;> simp [hm, setModeInstr] at hi

/-- What FINALIZE and SET_MODE to the mode in force leave: a core that tags the empty message. -/
def BothTagEmpty (s : State) : Prop :=
  ∃ i t v, setModeInstr s.mode = some i ∧ exec .finalize s = .next t ∧ exec i s = .next v ∧
    Tags (emptyTag s) t ∧ Tags (emptyTag s) v

theorem bothTagEmpty_cmac {s : State} (hkey : s.keySet = true) (hm : IsCmac s.mode) (hlen : s.keyLen = 16) :
    BothTagEmpty s := by
  have hinstr : setModeInstr s.mode = some (setCmac s.mode) := by
    obtain hm | hm := hm <;> rw [hm] <;> rfl
  have hfinalize := exec_finalize_cmac hkey hm
  have hset := exec_setCmac hm hkey hlen
  rw [clearCmac_writeTag_succeed] at hfinalize
  rw [selectMode_clearCmac_setContexts_succeed] at hset
  exact ⟨_, _, _, hinstr, hfinalize, hset, tags_emptyTag_cmac hkey hm rfl rfl, tags_emptyTag_cmac hkey hm rfl rfl⟩

theorem bothTagEmpty_hmac {ci co : HCtx} {s : State} (hs : HmacReady ci co s) : BothTagEmpty s := by
  have hinstr : setModeInstr s.mode = some .setModeHmac := by
    rw [hs.hmac]
    rfl
  obtain ⟨v, hset, hv⟩ := exec_setModeHmac_ready hs.keyed
  exact ⟨_, _, v, hinstr, exec_finalize_hmac hs, hset, tags_emptyTag_hmac hs.hmac ⟨hs.keyed, hs.hmac, rfl, rfl⟩,
    tags_emptyTag_hmac hs.hmac hv⟩

theorem isCmac_or_hmac {m : Mode} (hm : m ≠ .none) : IsCmac m ∨ m = .hmac := by
  cases m with
  | none => exact absurd rfl hm
  | omac => exact .inl (.inl rfl)
  | tmac => exact .inl (.inr rfl)
  | hmac => exact .inr rfl

theorem Inv.keySet_of_mode {s : State} (h : Inv s) (hm : s.mode ≠ .none) : s.keySet = true := by
  refine Bool.of_not_eq_false fun hkey => ?_
  obtain ⟨hnone, -⟩ := h.unkeyed hkey
  exact hm hnone

theorem Inv.bothTagEmpty {s : State} (h : Inv s) (hm : s.mode ≠ .none) : BothTagEmpty s := by
  have hkey := h.keySet_of_mode hm
  obtain hcmac | hhmac := isCmac_or_hmac hm
  · obtain ⟨hlen, -, -⟩ := h.cmacMode hcmac
    exact bothTagEmpty_cmac hkey hcmac hlen
  · obtain ⟨-, -, hinner, houter⟩ := h.hmacMode hhmac
    obtain ⟨ci, hci⟩ := Option.isSome_iff_exists.1 hinner
    obtain ⟨co, hco⟩ := Option.isSome_iff_exists.1 houter
    exact bothTagEmpty_hmac ⟨hkey, hhmac, hci, hco⟩

/-! ### The tag in the registers -/

theorem emptyTag_cmac {s : State} (hm : IsCmac s.mode) :
    (emptyTag s).length = (if s.mode = .tmac then 8 else 16) ∧ ∀ i : Fin 16, (bytesOf 32 (emptyTag s))[i.val] =
      if i.val < (emptyTag s).length then (cmacMsg (keyBlock s) s.mode (zeros 16) [[]])[i] else 0x00#8 := by
  have hle : tagBytes s.mode ≤ 16 := by
    rw [tagBytes_cmac hm]
    split <;> decide
  rw [emptyTag, if_neg (cmacMode_ne hm).2, firstBytes_length, Nat.min_eq_left hle]
  exact ⟨tagBytes_cmac hm, fun i => (bytesOf_getElem ..).trans (firstBytes_getD _ _ _ i.isLt)⟩

theorem emptyTag_hmac {s : State} (hm : s.mode = .hmac) :
    (emptyTag s).length = 32 ∧
      bytesOf 32 (emptyTag s) = hashOf (seedBlock 0x5c#8 s ++ (hashOf (seedBlock 0x36#8 s)).toList) := by
  rw [emptyTag, if_pos hm]
  exact ⟨Vector.length_toList, bytesOf_toList _⟩

/-- Settles O46: FINALIZE and SET_MODE both leave a fresh core, and FINALIZE of a fresh core writes the tag of the empty
message. -/
theorem secondFinalizeTagsTheEmptyMessage : Obligations.SecondFinalizeTagsTheEmptyMessage := by
  unfold Obligations.SecondFinalizeTagsTheEmptyMessage
  intro s hinv hm
  obtain ⟨i, t, v, hinstr, hfirst, hset, ht, hv⟩ := hinv.bothTagEmpty hm
  obtain ⟨u, hsecond, hutag, hulen⟩ := ht.exec_finalize
  obtain ⟨w, hother, hwtag, hwlen⟩ := hv.exec_finalize
  obtain ⟨htmode, htkey⟩ := finalize_keeps hfirst
  obtain ⟨humode, hukey⟩ := finalize_keeps hsecond
  refine ⟨i, t, u, v, w, hinstr, hfirst, hsecond, hset, hother, hutag.trans hwtag.symm, hulen.trans hwlen.symm,
    humode.trans htmode, hukey.trans htkey, fun hcmac => ?_, fun hhmac => ?_⟩
  · rw [hutag, hulen]
    exact emptyTag_cmac hcmac
  · rw [hutag, hulen]
    exact emptyTag_hmac hhmac

end Sys2Proof.Machine
end

section
/-! The errors of commands: the one error a command reports, what it leaves, and which steps write ERR
(60_exceptions.md R160 to R163, R169). -/

namespace Sys2Proof.Machine

open Sys2Proof.Claims

/-! ### The error a command reports -/

theorem mode_ne_none_of_macResult {s s' : State} {tag : List Byte} (hmac : macResult s = some (tag, s')) :
    s.mode ≠ .none := fun hm => by simp [(macResult_none s).2 hm] at hmac

/-- Whatever way a command completes, ERR is the first cause of R161 that applies: on each successful way none does. -/
theorem Completes.err_eq {i : Instr} {s t : State} (h : Completes i s t) : t.err = expectedError i s := by
  cases h with
  | error e _ hexpected => exact hexpected.symm
  | @setKey len _ hpos hle =>
    have hlegal : ¬(len = 0 ∨ 64 < len) := by omega
    exact (if_neg hlegal).symm
  | setCmac hi hm hkey hlen => simp [expectedError_setCmac s hi hm, hkey, hlen]
  | setHmac hkey => simp [expectedError, hkey]
  | addCmac hkey hm hle hfull =>
    obtain ⟨hnone, hhmac⟩ := cmacMode_ne hm
    simpa [expectedError, hkey, hnone, hhmac, Nat.not_lt.2 hle] using hfull
  | addHmac hkey hm hle => simp [expectedError, hkey, hm, Nat.not_lt.2 hle]
  | finalize hkey hmac => simp [expectedError, hkey, mode_ne_none_of_macResult hmac]
  | verify hkey hmac => simp [expectedError, hkey, mode_ne_none_of_macResult hmac]

theorem status_err_toNat (s : State) : ((statusWord s).extractLsb' 4 3).toNat = codeOf s.err := by
  rw [status_err, errBits_toNat]

/-- Without a key, KEY_NOT_SET comes before MODE_NOT_SET in the order of R161. -/
theorem expectedError_ne_modeNotSet {s : State} (i : Instr) (hkey : s.keySet = false) :
    expectedError i s ≠ .modeNotSet := by
  cases i with
  | setKey len => by_cases hlen : len = 0 ∨ 64 < len <;> simp [expectedError, hlen]
  | _ => simp [expectedError, hkey]

/-- Settles O26: every way of completing reports the first cause that applies, and STATUS shows ERR's code. -/
theorem errorsAreReportedInOrder : Obligations.ErrorsAreReportedInOrder := by
  unfold Obligations.ErrorsAreReportedInOrder
  refine ⟨fun i s => ?_, fun s e hc hd => ?_, fun i s _ hkey => expectedError_ne_modeNotSet i hkey⟩
  · obtain ⟨t, hexec, hx⟩ := exec_completes i s
    exact ⟨t, hexec, hx.err_eq, hx.err_eq ▸ status_err_toNat t⟩
  · obtain ⟨-, hillegal⟩ := illegalWordsCompleteWithIllegalCmd s.cmd
    exact ⟨_, hillegal s (decode_eq_error_iff.1 ⟨e, hd⟩) rfl hc, rfl, status_err_toNat _⟩

/-! ### What completing leaves of BUSY, and an error of the rest -/

theorem Completes.idle {i : Instr} {s t : State} (h : Completes i s t) : t.busy = false ∧ t.cyclesLeft = 0 := by
  cases h <;> exact ⟨rfl, rfl⟩

/-- Settles O13: `exec` answers in one of the ways of completing, and each of them ends the BUSY interval. -/
theorem everyCommandCompletes : Obligations.EveryCommandCompletes := by
  unfold Obligations.EveryCommandCompletes
  intro i s
  obtain ⟨t, hexec, hx⟩ := exec_completes i s
  exact ⟨t, hexec, hx.idle⟩

/-- Of the ways of completing only the error leaves an ERR other than OK. -/
theorem Completes.eq_onlyErr {i : Instr} {s t : State} (h : Completes i s t) (herr : t.err ≠ .ok) :
    t = onlyErr t.err s := by
  cases h with
  | error => rfl
  | _ => exact absurd rfl herr

/-- Settles O27: an error is raised before any effect of the command. -/
theorem errorChangesOnlyErr : Obligations.ErrorChangesOnlyErr := by
  unfold Obligations.ErrorChangesOnlyErr
  intro i s t h
  exact (completes_of_exec h).eq_onlyErr

/-! ### Which steps write ERR -/

/-- Settles O52: of the ways a step answers, an access leaves ERR, and the others are a reset or a completion. -/
theorem onlyCompletionWritesErr : Obligations.OnlyCompletionWritesErr := by
  unfold Obligations.OnlyCompletionWritesErr
  intro s t h hchanged
  cases answers_of_step h with
  | reset rest hhost => exact .inl ⟨rest, hhost⟩
  | command _ hc => exact .inr hc
  | illegal _ hc => exact .inr hc
  | access _ hframe => exact absurd (by rw [hframe]) hchanged

end Sys2Proof.Machine
end

section
/-! A command's result and the fields outside its reach: every way of completing is the answer of `exec`, and it carries
over to any other BUSY interval (70_reset_and_hazards.md R191). -/

namespace Sys2Proof.Machine

open Sys2Proof.Claims

/-! ### Every way of completing is the answer of `exec` -/

theorem exec_addBlock_of_full {s : State} {len : Nat} (hkey : s.keySet = true) (hm : IsCmac s.mode) (hle : len ≤ 16)
    (hfull : s.lastValid = true → 16 ≤ s.lastLen) :
    exec (.addBlock len) s = .next ((s.cmacAdd (dinBytes len s)).succeed false) := by
  rw [exec_addBlock_eq_addCmac len hkey hm]
  obtain ⟨hlong, -⟩ | ⟨-, hvalid, hshort, -⟩ | ⟨-, -, h⟩ := addCmac_cases len s
  · exact absurd hle (Nat.not_le.2 hlong)
  · exact absurd (hfull hvalid) (Nat.not_le.2 hshort)
  · exact h

theorem exec_of_expectedError {i : Instr} {s : State} (h : expectedError i s ≠ .ok) :
    exec i s = .next (s.complete (expectedError i s)) := by
  obtain ⟨t, hexec, hx⟩ := exec_completes i s
  rw [← hx.err_eq] at h ⊢
  rw [hexec]
  exact congrArg _ (hx.eq_onlyErr h)

/-- The converse of `completes_of_exec`: a command completes in one way only. -/
theorem Completes.exec_eq {i : Instr} {s t : State} (h : Completes i s t) : exec i s = .next t := by
  cases h with
  | error e he hexpected =>
    subst hexpected
    exact exec_of_expectedError he
  | setKey hpos hle => exact exec_setKey s hpos hle
  | setCmac hi hm hkey hlen =>
    have hexec := exec_setCmac hm hkey hlen
    obtain rfl | rfl := hm <;> cases hi <;> exact hexec
  | setHmac hkey => exact exec_setModeHmac hkey
  | addCmac hkey hm hle hfull => exact exec_addBlock_of_full hkey hm hle hfull
  | addHmac hkey hm hle => exact exec_addBlock_hmac hkey hm hle
  | finalize hkey hmac => exact exec_finalize_of_macResult hkey hmac
  | verify hkey hmac => exact exec_verify_of_macResult hkey hmac

/-! ### Another BUSY interval -/

/-- `s` with other values in the fields no command reads: BUSY and the command in progress, OVR, and what the host still
does and has read. -/
def State.withInterval (b o : Bool) (c : Word) (n : Nat) (h : List HostAction) (r : List Word) (s : State) : State :=
  { s with busy := b, ovr := o, cmd := c, cyclesLeft := n, host := h, reads := r }

section

variable (b o : Bool) (c : Word) (n : Nat) (h : List HostAction) (r : List Word)

theorem expectedError_withInterval (i : Instr) (s : State) :
    expectedError i (s.withInterval b o c n h r) = expectedError i s := by
  cases i <;> rfl

theorem macResult_withInterval {s s' : State} {tag : List Byte} (hmac : macResult s = some (tag, s')) :
    macResult (s.withInterval b o c n h r) = some (tag, s'.withInterval b o c n h r) := by
  have hmode : (s.withInterval b o c n h r).mode = s.mode := rfl
  obtain ⟨hm, rfl, rfl⟩ | ⟨hm, rfl, rfl⟩ | ⟨hm, rfl, rfl⟩ := macResult_cases hmac
  all_goals
    simp only [macResult, hmode, hm]
    rfl

/-- Each way of completing reads none of these fields, and writes only BUSY and the command in progress, which end. -/
theorem Completes.withInterval {i : Instr} {s t : State} (hx : Completes i s t) :
    Completes i (s.withInterval b o c n h r) { t with ovr := o, host := h, reads := r } := by
  cases hx with
  | error e he hexpected => exact .error e he ((expectedError_withInterval b o c n h r i s).trans hexpected)
  | setKey hpos hle => exact .setKey hpos hle
  | setCmac hi hm hkey hlen => exact .setCmac hi hm hkey hlen
  | setHmac hkey => exact .setHmac hkey
  | addCmac hkey hm hle hfull => exact .addCmac hkey hm hle hfull
  | addHmac hkey hm hle => exact .addHmac hkey hm hle
  | finalize hkey hmac =>
    exact .finalize (s := s.withInterval b o c n h r) hkey (macResult_withInterval b o c n h r hmac)
  | verify hkey hmac =>
    exact .verify (s := s.withInterval b o c n h r) hkey (macResult_withInterval b o c n h r hmac)

theorem exec_withInterval {i : Instr} {s t : State} (hexec : exec i s = .next t) :
    exec i (s.withInterval b o c n h r) = .next { t with ovr := o, host := h, reads := r } :=
  ((completes_of_exec hexec).withInterval b o c n h r).exec_eq

end

theorem Completes.host_eq {i : Instr} {s t : State} (h : Completes i s t) : t.host = s.host ∧ t.reads = s.reads := by
  cases h with
  | setKey => simp
  | finalize _ hmac | verify _ hmac => rw [macResult_frame hmac]; exact ⟨rfl, rfl⟩
  | _ => exact ⟨rfl, rfl⟩

/-- Settles O8: the way a command completes is the same in every BUSY interval. -/
theorem execIgnoresBusyInterval : Obligations.ExecIgnoresBusyInterval := by
  unfold Obligations.ExecIgnoresBusyInterval
  intro i s t b o c n h r hexec
  have hx := completes_of_exec hexec
  obtain ⟨hhost, hreads⟩ := hx.host_eq
  exact ⟨hx.ovr_eq, hhost, hreads, exec_withInterval b o c n h r hexec⟩

end Sys2Proof.Machine
end

section
/-! Accesses while BUSY: one access, then any number of them inside one BUSY interval (70_reset_and_hazards.md R192). -/

namespace Sys2Proof.Machine

open Sys2Proof.Claims

/-! ### One access -/

/-- An aligned word write that reaches the block while BUSY is dropped. -/
theorem step_of_dropped_write {s : State} {gap : Nat} {off : BitVec 8} {v : Word} {rest : List HostAction}
    (hhost : s.host = .write gap .word off v :: rest) (hbusy : s.busy = true) (hgap : gap < s.cyclesLeft)
    (halign : off.toNat % 4 = 0) : step s = .next ((s.dropWrite.elapse gap).consume rest) := by
  simp [step_of_write hhost fun _ => hgap, hostWrite, accessTaken_word halign, hbusy]

/-- Settles O10: the access comes before the completion, so the write is dropped and the read answered. -/
theorem writeWhileBusyIsDropped : Obligations.WriteWhileBusyIsDropped := by
  unfold Obligations.WriteWhileBusyIsDropped
  intro s gap off rest hbusy hgap halign
  refine ⟨fun v hhost => ⟨?_, step_of_dropped_write hhost hbusy hgap halign⟩,
    fun hhost => step_of_word_read hhost (fun _ => hgap) halign, ?_⟩
  · simp [hostProgramFault_of_write hhost fun _ => hgap, hbusy]
  · obtain ⟨hflag, -⟩ := status_flags s
    exact hflag.trans hbusy

/-! ### Any number of accesses -/

/-- The values read while a command runs are a function of the host's view. -/
theorem valuesRead_congr {a b : State} (during : List HostAction) (h : SameInView a b) :
    valuesRead during a = valuesRead during b := by
  induction during generalizing a b with
  | nil => rfl
  | cons x during ih =>
    cases x with
    | write gap width off v =>
      obtain ⟨hset, hkeyLen, hmode, hlastLen, hvalid, hdin, hexp, htag, htagLen, hbusy, hmatched, -, herr⟩ := h
      exact ih ⟨hset, hkeyLen, hmode, hlastLen, hvalid, hdin, hexp, htag, htagLen, hbusy, hmatched, rfl, herr⟩
    | read gap width off => simp only [valuesRead, windowRead_congr off h, ih h]
    | wait => exact ih h
    | reset => exact ih h

/-- The state after the accesses `during` inside one BUSY interval, with `rest` to do then. -/
def afterAccesses (during rest : List HostAction) (s : State) : State :=
  { s with
    ovr := s.ovr || during.any isWrite, cyclesLeft := s.cyclesLeft - (during.map gapOf).sum,
    reads := s.reads ++ valuesRead during s, host := rest }

theorem afterAccesses_nil {s : State} {rest : List HostAction} (hhost : s.host = rest) :
    afterAccesses [] rest s = s := by
  subst hhost
  simp [afterAccesses, valuesRead]

theorem valuesRead_cons (x : HostAction) (during rest : List HostAction) (s : State) :
    valuesRead (x :: during) s = valuesRead [x] s ++ valuesRead during (afterAccesses [x] rest s) := by
  cases x with
  | write => exact valuesRead_congr during (by simp [SameInView, afterAccesses, isWrite])
  | read gap width off =>
    exact congrArg (windowRead off s :: ·) (valuesRead_congr during (by simp [SameInView, afterAccesses, isWrite]))
  | wait | reset => exact valuesRead_congr during (by simp [SameInView, afterAccesses, isWrite])

theorem afterAccesses_cons (x : HostAction) (during rest rest' : List HostAction) (s : State) :
    afterAccesses (x :: during) rest s = afterAccesses during rest (afterAccesses [x] rest' s) := by
  rw [afterAccesses, valuesRead_cons x during rest' s]
  simp [afterAccesses, Nat.sub_sub, Bool.or_assoc]

/-- A taken access that reaches the block while BUSY passes in one step. -/
theorem step_of_access {x : HostAction} {rest : List HostAction} {s : State} (hbusy : s.busy = true)
    (htaken : IsTaken x) (hgap : gapOf x < s.cyclesLeft) (hhost : s.host = x :: rest) :
    step s = .next (afterAccesses [x] rest s) := by
  cases x with
  | write gap width off v =>
    obtain ⟨rfl, halign⟩ := htaken
    rw [step_of_dropped_write hhost hbusy hgap halign]
    simp [afterAccesses, valuesRead, isWrite, gapOf, State.dropWrite, State.elapse, State.consume]
  | read gap width off =>
    obtain ⟨rfl, halign⟩ := htaken
    rw [step_of_word_read hhost (fun _ => hgap) halign]
    simp [afterAccesses, valuesRead, isWrite, gapOf, State.observe, State.elapse, State.consume]
  | wait => exact htaken.elim
  | reset => exact htaken.elim

/-- Taken accesses whose gaps together are shorter than the cycles left pass in one step each. -/
theorem run_accesses (during : List HostAction) {rest : List HostAction} {s : State} (hbusy : s.busy = true)
    (htaken : ∀ x ∈ during, IsTaken x) (hgaps : (during.map gapOf).sum < s.cyclesLeft)
    (hhost : s.host = during ++ rest) : run during.length s = .next (afterAccesses during rest s) := by
  induction during generalizing s with
  | nil => exact congrArg Host.Outcome.next (afterAccesses_nil hhost).symm
  | cons x during ih =>
    obtain ⟨hx, hrest⟩ := List.forall_mem_cons.1 htaken
    rw [List.map_cons, List.sum_cons] at hgaps
    have hfirst : run 1 s = .next (afterAccesses [x] (during ++ rest) s) :=
      run_one (step_of_access hbusy hx (by omega) hhost)
    have hleft : (during.map gapOf).sum < (afterAccesses [x] (during ++ rest) s).cyclesLeft := by
      simp only [afterAccesses, List.map_cons, List.map_nil, List.sum_cons, List.sum_nil]
      omega
    have hbusy' : (afterAccesses [x] (during ++ rest) s).busy = true := hbusy
    rw [List.length_cons, Nat.add_comm, run_add hfirst, ih hbusy' hrest hleft rfl, ← afterAccesses_cons]

/-- Settles O9: the accesses leave only fields that the command does not read, so it completes as from its issue. -/
theorem accessesWhileBusyDoNotDisturbTheCommand : Obligations.AccessesWhileBusyDoNotDisturbTheCommand := by
  unfold Obligations.AccessesWhileBusyDoNotDisturbTheCommand
  intro s during rest i hbusy hd htaken hgaps hhost
  obtain ⟨t, hexec, -⟩ := exec_completes i s
  have hcompleting : Completing (afterAccesses during (.wait :: rest) s) := ⟨hbusy, trivial⟩
  exact ⟨t, hexec, run_succ (run_accesses during hbusy htaken hgaps hhost)
    ((step_of_decode hcompleting hd).trans (exec_withInterval s.busy _ s.cmd _ _ _ hexec))⟩

end Sys2Proof.Machine
end

section
/-! The latency as the host sees it, the reset input, and commands after a reset (70_reset_and_hazards.md R180 to R182,
R190, R195). -/

namespace Sys2Proof.Machine

open Sys2Proof.Claims

/-- Settles O53: of the state the latency reads MODE and the held length, which the host sees. -/
theorem latencyShowsNoSecret : Obligations.LatencyShowsNoSecret := by
  unfold Obligations.LatencyShowsNoSecret
  intro a b w h
  obtain ⟨-, -, hmode, hlastLen, -⟩ := h
  exact ⟨by simp only [latency, hmode, hlastLen], latency_pos w a⟩

theorem sameInView_assertReset (rest : List HostAction) (s : State) : SameInView (s.assertReset rest) State.reset :=
  ⟨rfl, rfl, rfl, rfl, rfl, rfl, rfl, rfl, rfl, rfl, rfl, rfl, rfl⟩

/-- Settles O54: the step of a reset replaces the whole block by its reset state. -/
theorem resetInputGivesTheResetState : Obligations.ResetInputGivesTheResetState := by
  unfold Obligations.ResetInputGivesTheResetState
  intro s rest hhost
  have hread : ∀ off, windowRead off (s.assertReset rest) = windowRead off State.reset :=
    fun off => windowRead_congr off (sameInView_assertReset rest s)
  have hstatus : windowRead 0x04#8 State.reset = 0#32 := by decide
  have hinfo : windowRead 0x08#8 State.reset = 0#32 := by decide
  refine ⟨_, step_of_reset hhost, rfl, ?_⟩
  rw [hread, hread, hstatus, hinfo]
  simp [State.assertReset, State.reset, zeros_eq_repeatByte, repeatByte]

/-- Without a key, KEY_NOT_SET is the error of every command but SET_KEY (60_exceptions.md R161). -/
theorem expectedError_of_no_key {i : Instr} {s : State} (hi : ∀ len, i ≠ .setKey len) (hkey : s.keySet = false) :
    expectedError i s = .keyNotSet := by
  cases i with
  | setKey len => exact absurd rfl (hi len)
  | _ => simp [expectedError, hkey]

/-- Settles O55: the reset state has no key, so the command's error is KEY_NOT_SET. -/
theorem afterResetOnlySetKeyRuns : Obligations.AfterResetOnlySetKeyRuns := by
  unfold Obligations.AfterResetOnlySetKeyRuns
  intro i h r hi
  exact (Completes.error .keyNotSet (by decide) (expectedError_of_no_key hi rfl)).exec_eq

end Sys2Proof.Machine
end
